-- ==== Sys2Proof/Word.lean ====
section
/-! DEFINITION. The widths of SPSEQ's registers and words, as the spec fixes them (rules R6, R10, R56, R59). -/

namespace Sys2Proof

/-- An 8-bit register or message byte (`SCALED`, `LED`, `MOTOR`, `DELAY`, `TIMER`). -/
abbrev Byte := BitVec 8

/-- Format S, the 10-bit sample word `raw[9:0]` (rules R11, R56). -/
abbrev Sample := BitVec 10

/-- Format Q, the 4-bit sequencer code `SEQ[3:0]` (rules R20, R59). -/
abbrev SeqCode := BitVec 4

/-- The 3-bit band index `BAND[2:0]` (rule R13). -/
abbrev BandIndex := BitVec 3

/-- The 2-bit message selector `MSG[1:0]` (rules R19, R63). -/
abbrev MsgCode := BitVec 2

end Sys2Proof
end

