-- ==== Sys2Proof/Syntax.lean ====
section
/-! DEFINITION. The agents that take steps (rule R136), the operations they can take, one constructor per row of
the opcode table (rules R55, R58, R60), and the encoded forms the decoder reads (rules R56, R59). -/

namespace Sys2Proof

/-- The agents of rule R136, one constructor each. The ADC brings the value it draws, which is "any value 0..1023,
chosen by the environment" (rule R139). -/
inductive Agent where
  | block
  | adc (r : Sample)
  | transmitter
  | timeBase
  | resetSource
  deriving DecidableEq, Repr, Inhabited

/-- The operations of SPSEQ, one constructor per row of the opcode table. -/
inductive Instr where
  /-- Format S: the band operations, with the fields `sub` and `frac` of the sample word (rules R56, R89 to R96). -/
  | band0 (sub : BitVec 5) (frac : BitVec 2)
  | band1 (sub : BitVec 5) (frac : BitVec 2)
  | band2 (sub : BitVec 5) (frac : BitVec 2)
  | band3 (sub : BitVec 5) (frac : BitVec 2)
  | band4 (sub : BitVec 5) (frac : BitVec 2)
  | band5 (sub : BitVec 5) (frac : BitVec 2)
  | band6 (sub : BitVec 5) (frac : BitVec 2)
  | band7 (sub : BitVec 5) (frac : BitVec 2)
  /-- Format Q: the sequencer operations and the environment's steps (rule R60). -/
  | setup
  | enter
  | complete (r : Sample)
  | capture
  | select
  | txsend
  | txdone
  | pinit
  | tick
  | expire
  | padv
  | ack
  /-- The reset step, which has no word (rule R161). -/
  | reset
  deriving DecidableEq, Repr

/-- What the decoder reads. A format S word selects a band operation by itself. A format Q code selects an
operation together with the agent whose step it is, because rule R60 gives three codes to two agents each; the
value of `COMPLETE` comes with the ADC, on the port `adc_raw` (rule R33), and has no bits in the code. `RESET` has
no word (width 0 in the opcode table). -/
inductive Code where
  | formatS (w : Sample)
  | formatQ (a : Agent) (c : SeqCode)
  | noWord
  deriving DecidableEq, Repr

end Sys2Proof
end

