-- ==== Sys2Proof/Config.lean ====
section
/-! DEFINITION. The parameters rule R6 leaves OPEN and the free choices of the environment, as constants without a
body: nothing can be proved of their values. (`PCT_FORMAT`, `ADC_FAIR` and `TX_FAIR` are premises: see
Machine/Operands.lean and Safety.lean.) -/

namespace Sys2Proof

/-- `LED_RESET`: `LED` after reset, "any 8-bit value; parameter, nothing may be assumed" (rules R35, R161, D8). -/
opaque Config.ledReset : Byte

/-- `MOTOR_RESET`: `MOTOR` after reset, any 8-bit value, not even one-hot (rules R35, R161, D8). -/
opaque Config.motorReset : Byte

/-- The free schedule: whose turn the `n`-th free turn is, with the sample the ADC would draw on it. All choice
lies with the environment (rule R137; D17 to D20): a free value, applied to `State.clock`. -/
opaque Config.freeTurn : Nat → Agent

end Sys2Proof
end

