-- ==== Sys2Proof/WellFormed.lean ====
section
/-! DEFINITION. Which encoded forms are words of SPSEQ, written from the opcode maps of rules R58, R60 and R64,
apart from the decoder.

Every term of `Instr` is well-formed by its types alone (each operand has the width of its field and every value of
it is legal, rule R64), so the checks are about `Code`. -/

namespace Sys2Proof

/-- A row of the opcode map of format S: a word `w` selects it with `(w & mask) = match` (rule R58). -/
structure SampleRow where
  mask : Sample
  pattern : Sample
  deriving DecidableEq, Repr

/-- The eight rows of rule R58, `BAND0` first. -/
def sampleRows : List SampleRow :=
  [⟨0x380, 0x000⟩, ⟨0x380, 0x080⟩, ⟨0x380, 0x100⟩, ⟨0x380, 0x180⟩,
   ⟨0x380, 0x200⟩, ⟨0x380, 0x280⟩, ⟨0x380, 0x300⟩, ⟨0x380, 0x380⟩]

/-- A word selects a row. -/
def SampleRow.hits (row : SampleRow) (w : Sample) : Bool :=
  w &&& row.mask == row.pattern

/-- The format Q codes in which an agent has a row in rule R60. -/
def Agent.codes : Agent → List SeqCode
  | .block => [0, 1, 2, 3, 4, 5, 6, 7, 8]
  | .adc _ => [1]
  | .transmitter => [4]
  | .timeBase => [6]
  | .resetSource => []

/-- Codes 0 to 8 name a state; codes 9 to 15 name none (rules R20, R64). -/
def SeqCode.namesState (c : SeqCode) : Bool := decide (c ≤ 8)

/-- A word of SPSEQ: any sample word; a code that names a state, in a row of the agent's; no word, for `RESET`. -/
def Code.wf : Code → Bool
  | .formatS _ => true
  | .formatQ a c => SeqCode.namesState c && a.codes.contains c
  | .noWord => true

end Sys2Proof
end

