-- ==== Sys2Proof/Decode.lean ====
section
/-! DEFINITION. The decoder, total on every encoded form and rejecting by name, and the encoder, both from the
encoding tables of rules R56 to R64. -/

namespace Sys2Proof

/-! The codes of `SEQ` (rules R20, R60) and of `MSG` (rule R63). -/

abbrev Seq.boot : SeqCode := 0
abbrev Seq.idle : SeqCode := 1
abbrev Seq.capture : SeqCode := 2
abbrev Seq.select : SeqCode := 3
abbrev Seq.emit : SeqCode := 4
abbrev Seq.pinit : SeqCode := 5
abbrev Seq.hold : SeqCode := 6
abbrev Seq.padv : SeqCode := 7
abbrev Seq.ack : SeqCode := 8

abbrev Msg.none : MsgCode := 0
abbrev Msg.min : MsgCode := 1
abbrev Msg.max : MsgCode := 2

/-! The fields of the sample word (rule R56). -/

/-- `band`, bits 9:7, the opcode. -/
def sampleBand (w : Sample) : BandIndex := w.extractLsb' 7 3

/-- `sub`, bits 6:2. -/
def sampleSub (w : Sample) : BitVec 5 := w.extractLsb' 2 5

/-- `frac`, bits 1:0. -/
def sampleFrac (w : Sample) : BitVec 2 := w.extractLsb' 0 2

/-- The sample word with the given fields: `bbbsssssff`. -/
def sampleWord (band : BandIndex) (sub : BitVec 5) (frac : BitVec 2) : Sample := (band ++ sub) ++ frac

/-- Why an encoded form is no instruction. -/
inductive DecodeError where
  /-- Codes 9 to 15 name no state (rule R64). -/
  | reservedCode (c : SeqCode)
  /-- The agent has no row with this code in rule R60. -/
  | noRow (c : SeqCode)
  deriving DecidableEq, Repr

/-- The band operation of a band index, with its operands. -/
def bandInstr (k : BandIndex) (sub : BitVec 5) (frac : BitVec 2) : Instr :=
  if k = 0 then .band0 sub frac
  else if k = 1 then .band1 sub frac
  else if k = 2 then .band2 sub frac
  else if k = 3 then .band3 sub frac
  else if k = 4 then .band4 sub frac
  else if k = 5 then .band5 sub frac
  else if k = 6 then .band6 sub frac
  else .band7 sub frac

/-- Format S: all 1024 words are legal (rules R58, R64). -/
def decodeSample (w : Sample) : Instr := bandInstr (sampleBand w) (sampleSub w) (sampleFrac w)

/-- The block's row for a code (rule R60). -/
def decodeBlock (c : SeqCode) : Except DecodeError Instr :=
  if c = Seq.boot then .ok .setup
  else if c = Seq.idle then .ok .enter
  else if c = Seq.capture then .ok .capture
  else if c = Seq.select then .ok .select
  else if c = Seq.emit then .ok .txsend
  else if c = Seq.pinit then .ok .pinit
  else if c = Seq.hold then .ok .expire
  else if c = Seq.padv then .ok .padv
  else if c = Seq.ack then .ok .ack
  else .error (.reservedCode c)

/-- A code in which an agent of the environment has no row: reserved, or another agent's alone. -/
def rejectCode (c : SeqCode) : Except DecodeError Instr :=
  if Seq.ack < c then .error (.reservedCode c) else .error (.noRow c)

/-- Format Q: the row of rule R60 for the agent and the code. -/
def decodeSeq : Agent → SeqCode → Except DecodeError Instr
  | .block, c => decodeBlock c
  | .adc r, c => if c = Seq.idle then .ok (.complete r) else rejectCode c
  | .transmitter, c => if c = Seq.emit then .ok .txdone else rejectCode c
  | .timeBase, c => if c = Seq.hold then .ok .tick else rejectCode c
  | .resetSource, c => rejectCode c

/-- The decoder. -/
def decode : Code → Except DecodeError Instr
  | .formatS w => .ok (decodeSample w)
  | .formatQ a c => decodeSeq a c
  | .noWord => .ok .reset

/-- The encoder (rules R56, R58, R60). -/
def encode : Instr → Code
  | .band0 sub frac => .formatS (sampleWord 0 sub frac)
  | .band1 sub frac => .formatS (sampleWord 1 sub frac)
  | .band2 sub frac => .formatS (sampleWord 2 sub frac)
  | .band3 sub frac => .formatS (sampleWord 3 sub frac)
  | .band4 sub frac => .formatS (sampleWord 4 sub frac)
  | .band5 sub frac => .formatS (sampleWord 5 sub frac)
  | .band6 sub frac => .formatS (sampleWord 6 sub frac)
  | .band7 sub frac => .formatS (sampleWord 7 sub frac)
  | .setup => .formatQ .block Seq.boot
  | .enter => .formatQ .block Seq.idle
  | .complete r => .formatQ (.adc r) Seq.idle
  | .capture => .formatQ .block Seq.capture
  | .select => .formatQ .block Seq.select
  | .txsend => .formatQ .block Seq.emit
  | .txdone => .formatQ .transmitter Seq.emit
  | .pinit => .formatQ .block Seq.pinit
  | .tick => .formatQ .timeBase Seq.hold
  | .expire => .formatQ .block Seq.hold
  | .padv => .formatQ .block Seq.padv
  | .ack => .formatQ .block Seq.ack
  | .reset => .noWord

/-- The encoded form of a word of the opcode table: no bits is `RESET`, up to 8 bits a format Q code read as the
block's (DESIGN CHOICE, log entry 8: three codes are shared, and the word alone does not say whose step it is), up
to 16 bits a format S word. A set bit above the format's width is no word. -/
def tableCode (nbits w : Nat) : Option Code :=
  if nbits = 0 then (if w = 0 then some .noWord else none)
  else if nbits ≤ 8 then (if w < 16 then some (.formatQ .block (BitVec.ofNat 4 w)) else none)
  else if nbits ≤ 16 then (if w < 1024 then some (.formatS (BitVec.ofNat 10 w)) else none)
  else none

/-- What the decoder answers for a word of the opcode table; none where it refuses. -/
def decodeTableWord (nbits w : Nat) : Option Instr :=
  match tableCode nbits w with
  | none => none
  | some c =>
    match decode c with
    | .ok i => some i
    | .error _ => none

end Sys2Proof
end

