-- ==== Sys2Proof/Machine/State.lean ====
section
/-! DEFINITION. The state of SPSEQ as plain data (rule R10), the observable events (rule R34), the reasons a step
can stop, and the state after reset (rules R35, R161). -/

namespace Sys2Proof.Machine

/-- An event at a port of the block (rules R33, R34). The first four are the trace's own; `tickMs` marks a `tick_ms`
event of the time base, so that the number of ticks between two events (rule R34) can be read off. -/
inductive Event where
  | adcStart
  | led (v : Byte)
  | tx (b : Byte)
  | motor (v : Byte)
  | tickMs
  deriving DecidableEq, Repr

/-- The whole state of the block (rule R10), and after it the model's own four fields. -/
structure State where
  /-- `RAW`, the last conversion result (rule R11). -/
  raw : Sample
  /-- `SCALED`, the ScaledCount (rule R12). -/
  scaled : Byte
  /-- `BAND`, the selected band (rule R13). -/
  band : BandIndex
  /-- `LED`, the LED bank's output register (rule R14). -/
  led : Byte
  /-- `MOTOR`, the phase output register (rule R15). -/
  motor : Byte
  /-- `DELAY`, the step delay in milliseconds (rule R16). -/
  delay : Byte
  /-- `TIMER`, ticks left in the current hold (rule R17). -/
  timer : Byte
  /-- `STEP`, advances done in this revolution (rule R18). -/
  stepNo : BitVec 7
  /-- `MSG`, the message selector (rules R19, R63). -/
  msg : MsgCode
  /-- `MIDX`, the index of the next message byte (rule R19). -/
  midx : BitVec 5
  /-- `SEQ`, the sequencer state (rule R20). -/
  seq : SeqCode
  /-- `ARMED`, a conversion is in progress (rule R22). -/
  armed : Bool
  /-- `DONE`, the completion indicator (rule R23). -/
  done : Bool
  /-- `TXBUSY`, a byte is in the transmitter (rule R24). -/
  txBusy : Bool
  /-- `IE_G`, the global delivery enable (rule R26). -/
  ieG : Bool
  /-- `IE_P`, the peripheral-level delivery enable (rule R26). -/
  ieP : Bool
  /-- `IE_ADC`, the analog-complete source enable (rule R26). -/
  ieAdc : Bool
  /-- The model's own: the observable trace so far, newest event first (rule R34). No operation reads it. -/
  trace : List Event
  /-- The model's own: whose turns come next, oldest first (rule R137: the choice is the environment's). -/
  turns : List Agent
  /-- The model's own: the counter the free schedule `Config.freeTurn` is applied to once `turns` is used up. -/
  clock : Nat
  /-- The model's own: this run takes the zero-time reading of rule R137; false is the free order. -/
  zeroTime : Bool
  deriving DecidableEq, Repr

/-- No operation of the block can fault: "There are none." (rule R146). Nothing raises a fault. -/
inductive Fault where
  deriving DecidableEq, Repr

/-- Why a step is refused. All of these are safe: the machine the spec describes never gets there. -/
inductive Refusal where
  /-- Raised by an arm of `exec` for an instruction without a meaning: none is left. Safe. -/
  | notModelled (mnemonic : String)
  /-- Raised by a step in a state with `SEQ` 9 to 15: "it is outside the machine" (rule R64, U10). Safe. -/
  | illegalSeq (c : SeqCode)
  /-- Raised by a step in a state with `MSG = 3`, refused likewise (rule R64, U10). Safe. -/
  | illegalMsg
  /-- Raised by an operation of the block run outside its guard: it is not enabled there (rules R7, R60). Safe. -/
  | notEnabled
  /-- Raised by a band operation while `SCALED` selects another band (rules R89 to R96). Safe. -/
  | otherBand
  /-- Raised by `COMPLETE` with `ARMED = 0`, a spurious completion, which "the model refuses" (D11, U8). Safe. -/
  | spuriousCompletion
  /-- Raised by `TXSEND` with a selector that has no string, 0 or 3 (rules R43, R64). Safe. -/
  | noSuchMessage
  /-- Raised by `PADV` with `MOTOR` not one of 0x80, 0x40, 0x20, 0x10 (rule R112, U9). Safe. -/
  | motorNotOneHot
  deriving DecidableEq, Repr

/-- What an operation answers. -/
abbrev Result := Host.Outcome State Fault Refusal

/-- The machine right after reset (rules R35, R161). `LED` and `MOTOR` hold the OPEN parameters; the eight registers
that "hold no value" hold 0 (DESIGN CHOICE, log entry 1, unsafe). -/
def State.reset : State where
  raw := 0
  scaled := 0
  band := 0
  led := Config.ledReset
  motor := Config.motorReset
  delay := 0
  timer := 0
  stepNo := 0
  msg := 0
  midx := 0
  seq := Seq.boot
  armed := false
  done := false
  txBusy := false
  ieG := false
  ieP := false
  ieAdc := false
  trace := []
  turns := []
  clock := 0
  zeroTime := false

end Sys2Proof.Machine
end

