-- ==== Sys2Proof/Machine/Operands.lean ====
section
/-! DEFINITION. The operand forms: the reduction of a sample, the percentage and its band, the band bits, the
phase code (rules R57, R61, R73, R74, R86, R87, R112). -/

namespace Sys2Proof.Machine

/-- `N_ADVANCES` (rule R5). -/
abbrev nAdvances : BitVec 7 := 72

/-- `MSG_LEN` (rule R5). -/
abbrev msgLen : BitVec 5 := 19

/-- `LINE_HIGH`, line 7 (rule R5). -/
abbrev lineHigh : Byte := 0x80

/-- `LINE_LOW`, line 4 (rule R5). -/
abbrev lineLow : Byte := 0x10

/-- `RAW[9:2]`, that is `RAW >> 2`, unsigned (rules R57, R73). -/
def reduceSample (r : Sample) : Byte := r.extractLsb' 2 8

/-- `SCALED[7:5]`, the band's bits (rule R87). -/
def bandBits (c : Byte) : BandIndex := c.extractLsb' 5 3

/-- `SCALED[4:0]`, the field `sub` as `CAPTURE` keeps it (rules R56, R57). -/
def subBits (c : Byte) : BitVec 5 := c.extractLsb' 0 5

/-- The SpeedPercentage of a scaled count, the exact rational `c * 100 / 255` (rule R74, D4). -/
def pct (c : Byte) : ℚ := (c.toNat : ℚ) * 100 / 255

/-- The cascade of rule R86. -/
def bandCascade (p : ℚ) : BandIndex :=
  if p ≤ 12.5 then 0
  else if p ≤ 25 then 1
  else if p ≤ 37.5 then 2
  else if p ≤ 50 then 3
  else if p ≤ 62.5 then 4
  else if p ≤ 75 then 5
  else if p ≤ 87.5 then 6
  else 7

/-- `band_of` with its domain [0, 100]; outside it there is no answer (rules R86, R99, U1). -/
def bandOf (p : ℚ) : Option BandIndex :=
  if 0 ≤ p ∧ p ≤ 100 then some (bandCascade p) else none

/-- `PCT_FORMAT`, as a premise: a number format whose error on this computation is below 5/102 (rules R6, R74). -/
def QualifiesFormat (f : Byte → ℚ) : Prop := ∀ c, |f c - pct c| < 5 / 102

/-- The phase after a given one: on line 4 the wrap to line 7 takes the place of the shift, otherwise one line down;
a value that is not one of the four phases has no successor (rules R61, R112, U9). -/
def nextPhase (m : Byte) : Option Byte :=
  if m = lineLow then some lineHigh
  else if m = 0x80 ∨ m = 0x40 ∨ m = 0x20 then some (m >>> 1)
  else none

/-- The phase written with `STEP = n`: `0x80 >> (n mod 4)` (rules R32 item 5, R61, R114). -/
def phaseOf (n : Nat) : Byte := lineHigh >>> (n % 4)

end Sys2Proof.Machine
end

