-- ==== Sys2Proof/Machine/Flags.lean ====
section
/-! DEFINITION. The flags and enables as conditions: the delivery condition and the guard of every operation
(rules R22 to R26, R60, R136, R140). -/

namespace Sys2Proof.Machine

/-- The notification is deliverable: pending, and all three enables are 1 (rules R140, R141). -/
def State.deliverable (s : State) : Bool := s.done && s.ieG && s.ieP && s.ieAdc

/-- `SEQ` is the given code. -/
def State.inState (s : State) (c : SeqCode) : Bool := decide (s.seq = c)

/-- The guard of `ENTER` (rule R144). -/
def State.canEnter (s : State) : Bool := s.inState Seq.idle && s.deliverable

/-- The guard of `TXSEND` (rule R101). -/
def State.canSend (s : State) : Bool := s.inState Seq.emit && !s.txBusy && decide (s.midx < msgLen)

/-- The guard of `TXDONE` (rule R102). -/
def State.canTxDone (s : State) : Bool := s.inState Seq.emit && s.txBusy

/-- The guard of `TICK` (rule R127). -/
def State.canTick (s : State) : Bool := s.inState Seq.hold && decide (s.timer ≠ 0)

/-- The guard of `EXPIRE` (rules R113, R128). -/
def State.canExpire (s : State) : Bool := s.inState Seq.hold && decide (s.timer = 0)

/-- The guard of every operation (rules R60, R88, R136, R139, R161). -/
def enabled : Instr → State → Bool
  | .band0 _ _, s => s.inState Seq.select && decide (bandBits s.scaled = 0)
  | .band1 _ _, s => s.inState Seq.select && decide (bandBits s.scaled = 1)
  | .band2 _ _, s => s.inState Seq.select && decide (bandBits s.scaled = 2)
  | .band3 _ _, s => s.inState Seq.select && decide (bandBits s.scaled = 3)
  | .band4 _ _, s => s.inState Seq.select && decide (bandBits s.scaled = 4)
  | .band5 _ _, s => s.inState Seq.select && decide (bandBits s.scaled = 5)
  | .band6 _ _, s => s.inState Seq.select && decide (bandBits s.scaled = 6)
  | .band7 _ _, s => s.inState Seq.select && decide (bandBits s.scaled = 7)
  | .setup, s => s.inState Seq.boot
  | .enter, s => s.canEnter
  | .complete _, s => s.armed
  | .capture, s => s.inState Seq.capture
  | .select, s => s.inState Seq.select
  | .txsend, s => s.canSend
  | .txdone, s => s.canTxDone
  | .pinit, s => s.inState Seq.pinit
  | .tick, s => s.canTick
  | .expire, s => s.canExpire
  | .padv, s => s.inState Seq.padv
  | .ack, s => s.inState Seq.ack
  | .reset, _ => true

end Sys2Proof.Machine
end

