-- ==== Sys2Proof/Machine/Tables.lean ====
section
/-! DEFINITION. The two read-only tables and their reads (rules R41 to R44). -/

namespace Sys2Proof.Machine

/-- An entry of `BANDROM`, read whole in one access (rule R41). -/
structure BandEntry where
  ledpat : Byte
  delay : Byte
  msg : MsgCode
  deriving DecidableEq, Repr

/-- `TableRead(BANDROM, k)`: the contents of rule R42. Every index is an entry (rule R41). -/
def bandRom (k : BandIndex) : BandEntry :=
  if k = 0 then ⟨0x01, 30, Msg.min⟩
  else if k = 1 then ⟨0x03, 26, Msg.none⟩
  else if k = 2 then ⟨0x07, 23, Msg.none⟩
  else if k = 3 then ⟨0x0F, 20, Msg.none⟩
  else if k = 4 then ⟨0x1F, 18, Msg.none⟩
  else if k = 5 then ⟨0x3F, 15, Msg.none⟩
  else if k = 6 then ⟨0x7F, 13, Msg.none⟩
  else ⟨0xFF, 10, Msg.max⟩

/-- "Velocidade Minima" with the trailing space and carriage return, in ASCII (rule R44, G1). -/
def msgMinBytes : List Byte :=
  [0x56, 0x65, 0x6C, 0x6F, 0x63, 0x69, 0x64, 0x61, 0x64, 0x65, 0x20, 0x4D, 0x69, 0x6E, 0x69, 0x6D, 0x61, 0x20, 0x0D]

/-- "Velocidade Maxima" with the trailing space and carriage return, in ASCII (rule R44, G1). -/
def msgMaxBytes : List Byte :=
  [0x56, 0x65, 0x6C, 0x6F, 0x63, 0x69, 0x64, 0x61, 0x64, 0x65, 0x20, 0x4D, 0x61, 0x78, 0x69, 0x6D, 0x61, 0x20, 0x0D]

/-- The string of a selector: 0 has none, 3 does not exist (rule R43). -/
def msgRom (m : MsgCode) : List Byte :=
  if m = Msg.min then msgMinBytes
  else if m = Msg.max then msgMaxBytes
  else []

/-- `TableRead(MSGROM, (m, i))` (rule R43). -/
def msgByte (m : MsgCode) (i : BitVec 5) : Option Byte := (msgRom m)[i.toNat]?

end Sys2Proof.Machine
end

