-- ==== Sys2Proof/Machine/Ops.lean ====
section
/-! DEFINITION. The named operations: writes shared by several instructions, taking the notification and returning
from it, the reset of the block, whose turn it is, and fetching the operation of a turn. -/

namespace Sys2Proof.Machine

/-- Do the operation when its guard holds; it is not enabled otherwise (rule R7). -/
def fire (guard : Bool) (t : State) : Result := if guard then .next t else .refused .notEnabled

/-- `seq <- c` (rules R7, R20). -/
def State.setSeq (s : State) (c : SeqCode) : State := { s with seq := c }

/-- `emit e`: record an event on an output port (rule R7). -/
def State.emit (s : State) (e : Event) : State := { s with trace := e :: s.trace }

/-- `arm()`: `ARMED <- 1; emit adc_start` (rule R71). -/
def State.arm (s : State) : State := { s with armed := true, trace := .adcStart :: s.trace }

/-- `load()`: `TIMER <- DELAY` (rule R126). -/
def State.loadTimer (s : State) : State := { s with timer := s.delay }

/-- A phase write: `MOTOR <- v; emit motor(v)`, the whole register (rules R47, R111, R112). -/
def State.writePhase (s : State) (v : Byte) : State := { s with motor := v, trace := .motor v :: s.trace }

/-- `SETUP`'s writes of the enables, and its clearing of `DONE` (rule R162). -/
def State.enableDelivery (s : State) : State := { s with ieG := true, ieP := true, ieAdc := true, done := false }

/-- Taking the notification (rule R144): nothing is saved, no mode bit or mask changes, `DONE` stays 1, and control
goes to the one handler. -/
def State.takeNotification (s : State) : State := s.setSeq Seq.capture

/-- The return from the handler (rules R75, R145): clear first, then arm, then back to the idle wait. -/
def State.returnFromHandler (s : State) : State := ({ s with done := false }.arm).setSeq Seq.idle

/-- `SELECT`'s writes for band `k` (rule R88). -/
def State.selectBand (s : State) (k : BandIndex) : State :=
  { s with
    band := k
    led := (bandRom k).ledpat
    delay := (bandRom k).delay
    msg := (bandRom k).msg
    midx := 0
    seq := if (bandRom k).msg = Msg.none then Seq.pinit else Seq.emit
    trace := .led (bandRom k).ledpat :: s.trace }

/-- One of the eight cases of `SELECT`: in `S_SELECT`, with `SCALED` in band `k` (rules R89 to R96). -/
def bandCase (k : BandIndex) (s : State) : Result :=
  if s.inState Seq.select then
    (if bandBits s.scaled = k then .next (s.selectBand k) else .refused .otherBand)
  else .refused .notEnabled

/-- The block after `RESET` (rules R35, R161): every field of the block as in `State.reset`; the model's own fields
stay, for `RESET` emits no event and the environment goes on. -/
def State.resetBlock (s : State) : State :=
  { State.reset with trace := s.trace, turns := s.turns, clock := s.clock, zeroTime := s.zeroTime }

/-- Whose turn it is: the next of `turns`, and past its end the free schedule's (rule R137). -/
def State.nextTurn (s : State) : Agent :=
  match s.turns with
  | a :: _ => a
  | [] => Config.freeTurn s.clock

/-- The turn is used up. -/
def State.useTurn (s : State) : State :=
  match s.turns with
  | _ :: rest => { s with turns := rest }
  | [] => { s with clock := s.clock + 1 }

/-- The operation of the block that is enabled: its row of rule R60 for `SEQ`, if the guard holds. At most one is
(rule R137); none while the block waits (rules R148, R156). -/
def State.blockOp (s : State) : Option Instr :=
  match decode (.formatQ .block s.seq) with
  | .ok i => if enabled i s then some i else none
  | .error _ => none

/-- What a turn brings: an operation to run in a state, a turn that passes without a step, or a refusal. -/
inductive Fetched where
  | run (i : Instr) (s : State)
  | pass (s : State)
  | refuse (r : Refusal)
  deriving DecidableEq, Repr

/-- The step of an agent on its turn (rule R136). The block waits when none of its operations is enabled (rules
R148, R156). With `ARMED = 0` the ADC takes no step (rule R22). The transmitter and the time base always offer
their event, which has an effect only under its guard (rules R102, R131). -/
def State.fetchTurn (s : State) : Agent → Fetched
  | .block =>
    match s.blockOp with
    | some i => .run i s.useTurn
    | none => .pass s.useTurn
  | .adc r => if s.armed then .run (.complete r) s.useTurn else .pass s.useTurn
  | .transmitter => .run .txdone s.useTurn
  | .timeBase => .run .tick s.useTurn
  | .resetSource => .run .reset s.useTurn

/-- The block's enabled operation comes before the turn of the environment under the zero-time reading, and leaves
that turn to come (rule R137); in the free order the turn decides alone. -/
def State.fetchOrdered (s : State) : Fetched :=
  match s.zeroTime, s.blockOp with
  | true, some i => .run i s
  | _, _ => s.fetchTurn s.nextTurn

/-- The next step's operation. `RESET` is before every other step and possible in any state (rules R161, R165); a
state with a `SEQ` code that names no state, or with `MSG = 3`, is refused (rule R64). -/
def State.fetch (s : State) : Fetched :=
  if s.nextTurn = .resetSource then .run .reset s.useTurn
  else if Seq.ack < s.seq then .refuse (.illegalSeq s.seq)
  else if s.msg = 3 then .refuse .illegalMsg
  else s.fetchOrdered

/-- The guard of the block's operation in code `c` made true, and what the operation reads made legal: for
`State.withFetchWord` alone (log entry 8). -/
def State.meetGuard (s : State) (c : SeqCode) : State :=
  if c = Seq.idle then { s with done := true, ieG := true, ieP := true, ieAdc := true }
  else if c = Seq.emit then
    { s with
      txBusy := false
      midx := if s.midx < msgLen then s.midx else 0
      msg := if s.msg = Msg.max then Msg.max else Msg.min }
  else if c = Seq.hold then { s with timer := 0 }
  else if c = Seq.padv then { s with motor := phaseOf s.stepNo.toNat }
  else s

/-- Put an encoded form where the next step finds it: a format Q code into `SEQ`, with its guard; a sample word into
`RAW` and `SCALED` with `SEQ = S_SELECT`, where it is decoded; and the turn of the agent in front. -/
def State.place (s : State) : Code → State
  | .noWord => { s with turns := .resetSource :: s.turns }
  | .formatQ a c => { (s.meetGuard c) with seq := c, turns := a :: s.turns }
  | .formatS w => { s with raw := w, scaled := reduceSample w, seq := Seq.select, turns := .block :: s.turns }

/-! The output ports (rules R33, R153, D24). -/

/-- The port `led[7:0]` shows `LED` at all times. -/
def State.ledPort (s : State) : Byte := s.led

/-- The port `motor[7:4]` shows `MOTOR[7:4]` at all times. -/
def State.motorPort (s : State) : BitVec 4 := s.motor.extractLsb' 4 4

/-- The port `busy`: 1 when `SEQ` is neither `S_IDLE` nor `S_BOOT`. -/
def State.busy (s : State) : Bool := !s.inState Seq.idle && !s.inState Seq.boot

/-- The trace in the order of emission, without the time base's own events (rule R34). -/
def State.emitted (s : State) : List Event := s.trace.reverse.filter fun e => decide (e ≠ .tickMs)

end Sys2Proof.Machine
end

