-- ==== Sys2Proof/Machine/Band.lean ====
section
/-! DEFINITION. Band selection: `SELECT` and its eight cases (rules R88 to R96). The operands `sub` and `frac` of a
band operation are "operands of nothing" (rule R57). -/

namespace Sys2Proof.Machine

/-- `SELECT` (rule R88), with the band as the slice `SCALED[7:5]` (rules R87, R99). -/
def execSelect (s : State) : Result := fire (enabled .select s) (s.selectBand (bandBits s.scaled))

/-- `BAND0` (rule R89). -/
def execBand0 (_sub : BitVec 5) (_frac : BitVec 2) (s : State) : Result := bandCase 0 s

/-- `BAND1` (rule R90). -/
def execBand1 (_sub : BitVec 5) (_frac : BitVec 2) (s : State) : Result := bandCase 1 s

/-- `BAND2` (rule R91). -/
def execBand2 (_sub : BitVec 5) (_frac : BitVec 2) (s : State) : Result := bandCase 2 s

/-- `BAND3` (rule R92). -/
def execBand3 (_sub : BitVec 5) (_frac : BitVec 2) (s : State) : Result := bandCase 3 s

/-- `BAND4` (rule R93). -/
def execBand4 (_sub : BitVec 5) (_frac : BitVec 2) (s : State) : Result := bandCase 4 s

/-- `BAND5` (rule R94). -/
def execBand5 (_sub : BitVec 5) (_frac : BitVec 2) (s : State) : Result := bandCase 5 s

/-- `BAND6` (rule R95). -/
def execBand6 (_sub : BitVec 5) (_frac : BitVec 2) (s : State) : Result := bandCase 6 s

/-- `BAND7` (rule R96). -/
def execBand7 (_sub : BitVec 5) (_frac : BitVec 2) (s : State) : Result := bandCase 7 s

end Sys2Proof.Machine
end

