-- ==== Sys2Proof/Machine/Boot.lean ====
section
/-! DEFINITION. Reset and one-time setup (rules R161, R162). -/

namespace Sys2Proof.Machine

/-- `RESET` (rule R161). Guard: none. -/
def execReset (s : State) : Result := .next s.resetBlock

/-- `SETUP` (rule R162): enables, clear, arm, idle, in that order (rule R163). -/
def execSetup (s : State) : Result := fire (enabled .setup s) ((s.enableDelivery.arm).setSeq Seq.idle)

end Sys2Proof.Machine
end

