-- ==== Sys2Proof/Machine/Message.lean ====
section
/-! DEFINITION. The status message hand-off (rules R101, R102). -/

namespace Sys2Proof.Machine

/-- `TXSEND` (rule R101). A selector that has no string is refused (rules R43, R64). -/
def execTxsend (s : State) : Result :=
  if enabled .txsend s then
    match msgByte s.msg s.midx with
    | some b => .next ({ s with txBusy := true }.emit (.tx b))
    | none => .refused .noSuchMessage
  else .refused .notEnabled

/-- `TXDONE` (rule R102). The test is on the new value of `MIDX`. A `tx_done` event outside the guard has no effect
(rule R102, U16). -/
def execTxdone (s : State) : Result :=
  if enabled .txdone s then
    .next { s with
      txBusy := false
      midx := s.midx + 1
      seq := if s.midx + 1 = msgLen then Seq.pinit else s.seq }
  else .next s

end Sys2Proof.Machine
end

