-- ==== Sys2Proof/Machine/Notify.lean ====
section
/-! DEFINITION. The notification path: the ADC's completion and the delivery (rules R139, R144). -/

namespace Sys2Proof.Machine

/-- `COMPLETE(r)` (rule R139). With `ARMED = 0` it is a spurious completion, which is refused (D11, U8). -/
def execComplete (r : Sample) (s : State) : Result :=
  if s.armed then .next { s with raw := r, armed := false, done := true } else .refused .spuriousCompletion

/-- `ENTER` (rule R144). -/
def execEnter (s : State) : Result := fire (enabled .enter s) s.takeNotification

end Sys2Proof.Machine
end

