-- ==== Sys2Proof/Machine/Phase.lean ====
section
/-! DEFINITION. The phase sequencer (rules R111 to R113). -/

namespace Sys2Proof.Machine

/-- `PINIT` (rule R111). -/
def execPinit (s : State) : Result :=
  fire (enabled .pinit s) (({ s.writePhase lineHigh with stepNo := 0 }.loadTimer).setSeq Seq.hold)

/-- `PADV` (rule R112). A `MOTOR` that is not one of the four phases is refused: "this spec gives that case no
meaning" (rule R112, U9). -/
def execPadv (s : State) : Result :=
  if enabled .padv s then
    match nextPhase s.motor with
    | some v => .next (({ s.writePhase v with stepNo := s.stepNo + 1 }.loadTimer).setSeq Seq.hold)
    | none => .refused .motorNotOneHot
  else .refused .notEnabled

/-- `EXPIRE` (rule R113). -/
def execExpire (s : State) : Result :=
  fire (enabled .expire s) (s.setSeq (if s.stepNo < nAdvances then Seq.padv else Seq.ack))

end Sys2Proof.Machine
end

