-- ==== Sys2Proof/Machine/Sample.lean ====
section
/-! DEFINITION. Sample capture, acknowledge and re-arm (rules R73, R75). -/

namespace Sys2Proof.Machine

/-- `CAPTURE` (rule R73). -/
def execCapture (s : State) : Result :=
  fire (enabled .capture s) ({ s with scaled := reduceSample s.raw }.setSeq Seq.select)

/-- `ACK` (rule R75): the return from the handler. -/
def execAck (s : State) : Result := fire (enabled .ack s) s.returnFromHandler

end Sys2Proof.Machine
end

