-- ==== Sys2Proof/Machine/Timer.lean ====
section
/-! DEFINITION. The delay timer (rules R127, R131). -/

namespace Sys2Proof.Machine

/-- `TICK` (rule R127): under its guard the count goes down by one; outside it a `tick_ms` event changes nothing of
the block (rule R131). The event is marked in the trace in both cases (rule R34). -/
def execTick (s : State) : Result :=
  if enabled .tick s then .next ({ s with timer := s.timer - 1 }.emit .tickMs) else .next (s.emit .tickMs)

end Sys2Proof.Machine
end

