-- ==== Sys2Proof/Machine/Dispatch.lean ====
section
/-! DEFINITION. The dispatch: one arm per operation of the opcode table. -/

namespace Sys2Proof.Machine

def exec (i : Instr) (s : State) : Host.Outcome State Fault Refusal :=
  match i with
  | .band0 sub frac => Sys2Proof.Machine.execBand0 sub frac s
  | .band1 sub frac => Sys2Proof.Machine.execBand1 sub frac s
  | .band2 sub frac => Sys2Proof.Machine.execBand2 sub frac s
  | .band3 sub frac => Sys2Proof.Machine.execBand3 sub frac s
  | .band4 sub frac => Sys2Proof.Machine.execBand4 sub frac s
  | .band5 sub frac => Sys2Proof.Machine.execBand5 sub frac s
  | .band6 sub frac => Sys2Proof.Machine.execBand6 sub frac s
  | .band7 sub frac => Sys2Proof.Machine.execBand7 sub frac s
  | .setup => Sys2Proof.Machine.execSetup s
  | .enter => Sys2Proof.Machine.execEnter s
  | .complete r => Sys2Proof.Machine.execComplete r s
  | .capture => Sys2Proof.Machine.execCapture s
  | .select => Sys2Proof.Machine.execSelect s
  | .txsend => Sys2Proof.Machine.execTxsend s
  | .txdone => Sys2Proof.Machine.execTxdone s
  | .pinit => Sys2Proof.Machine.execPinit s
  | .tick => Sys2Proof.Machine.execTick s
  | .expire => Sys2Proof.Machine.execExpire s
  | .padv => Sys2Proof.Machine.execPadv s
  | .ack => Sys2Proof.Machine.execAck s
  | .reset => Sys2Proof.Machine.execReset s

end Sys2Proof.Machine
end

