-- ==== Sys2Proof/Machine/Step.lean ====
section
/-! DEFINITION. One step of one agent (rules R136, R137), and the placing of an instruction word for the next step. -/

namespace Sys2Proof.Machine

/-- One turn: run the fetched operation, let the turn pass, or refuse. -/
def step (s : State) : Host.Outcome State Fault Refusal :=
  match s.fetch with
  | .run i t => exec i t
  | .pass t => .next t
  | .refuse r => .refused r

/-- `s` with a word of the opcode table where the next step fetches; `s` itself where the word is none. -/
def State.withFetchWord (s : State) (nbits w : Nat) : State :=
  match tableCode nbits w with
  | some c => s.place c
  | none => s

end Sys2Proof.Machine
end

