-- ==== Sys2Proof/Safety.lean ====
section
/-! DEFINITION. What counts as a good state of SPSEQ and a good run: the invariants of rule R32, the register table
of rule R10 and the transition table of rule R21 as functions, the traces of a message, a revolution and a served
sample (rules R50, R103, R114), and the fairness premises (rules R6, R139, R105). The terms claims use. -/

namespace Sys2Proof.Machine

/-! ## The invariant -/

/-- `SEQ` in `S_CAPTURE` to `S_ACK`: the block is in the handler (rule R135). -/
def State.inHandler (s : State) : Prop := Seq.capture ≤ s.seq ∧ s.seq ≤ Seq.ack

/-- The states between the first phase write of a revolution and the return (rule R32 item 5). -/
def State.phaseWritten (s : State) : Prop := s.seq = Seq.hold ∨ s.seq = Seq.padv ∨ s.seq = Seq.ack

/-- The states of the handler after `SELECT`. -/
def State.bandChosen (s : State) : Prop := Seq.emit ≤ s.seq ∧ s.seq ≤ Seq.ack

/-- `LED` and `DELAY` are those of `BAND` (rule R32 item 8). -/
def State.bandShown (s : State) : Prop :=
  s.led = (bandRom s.band).ledpat ∧ s.delay = (bandRom s.band).delay

/-- All three enables are 1 (rule R140). -/
def State.enablesSet (s : State) : Prop := s.ieG = true ∧ s.ieP = true ∧ s.ieAdc = true

/-- The invariants of rule R32, with what it takes to carry them over a step. -/
structure State.Inv (s : State) : Prop where
  /-- Item 1: `SEQ` is one of the nine codes. -/
  seqLegal : s.seq ≤ Seq.ack
  /-- `MSG` is one of its three codes (rule R63). -/
  msgLegal : s.msg ≠ 3
  /-- Item 2. -/
  armedIdle : s.armed = true → s.seq = Seq.idle ∧ s.done = false
  /-- Item 3. -/
  doneUnarmed : s.done = true → s.armed = false
  /-- Item 4. -/
  handlerPending : s.inHandler → s.done = true ∧ s.armed = false
  /-- Item 5: which of the four phases `MOTOR` is. -/
  phase : s.phaseWritten → s.motor = phaseOf s.stepNo.toNat
  /-- Item 6. -/
  stepRange : s.stepNo ≤ nAdvances
  timerRange : s.timer ≤ s.delay
  midxRange : s.midx ≤ msgLen
  /-- Item 7. -/
  busyEmits : s.txBusy = true → s.seq = Seq.emit
  /-- Item 8, inside the handler. -/
  chosen : s.bandChosen → s.bandShown ∧ s.band = bandBits s.scaled ∧ s.msg = (bandRom s.band).msg
  /-- Item 9. -/
  enables : s.seq ≠ Seq.boot → s.enablesSet
  /-- A message is being sent only where there is one, and it is not over (rule R101). -/
  emitting : s.seq = Seq.emit → s.msg ≠ Msg.none ∧ s.midx < msgLen
  /-- The timer counts only in a hold (rule R131). -/
  timerRests : s.seq ≠ Seq.hold → s.timer = 0
  /-- There is an advance left in `S_PADV` (rule R113). -/
  advanceLeft : s.seq = Seq.padv → s.stepNo < nAdvances
  /-- All advances are done in `S_ACK` (rule R113). -/
  advancesDone : s.seq = Seq.ack → s.stepNo = nAdvances
  /-- From `S_PINIT` on, `MIDX` is what `SELECT` and the message left in it (rule R174). -/
  messageOver : s.bandChosen → s.seq ≠ Seq.emit → s.midx = if s.msg = Msg.none then 0 else msgLen
  /-- While idle, exactly one of a conversion in progress and a pending notification (rules R145, R174). -/
  idleOne : s.seq = Seq.idle → s.armed = !s.done

/-- Rule R32 item 8, "after the first `SELECT`": kept by every step but a reset. -/
def State.Selected (s : State) : Prop :=
  s.bandShown ∧ (s.seq ≠ Seq.select → s.band = bandBits s.scaled)

/-- A quiescent point (rule R174). -/
def State.quiescent (s : State) : Prop := s.seq = Seq.idle ∧ s.armed = true

/-! ## The register table of rule R10 -/

/-- The seventeen pieces of state of rule R10. -/
inductive Reg where
  | raw | scaled | band | led | motor | delay | timer | step | msg | midx | seq
  | armed | done | txBusy | ieG | ieP | ieAdc
  deriving DecidableEq, Repr

/-- A register holds the same in two states. -/
def Reg.same : Reg → State → State → Prop
  | .raw, s, t => t.raw = s.raw
  | .scaled, s, t => t.scaled = s.scaled
  | .band, s, t => t.band = s.band
  | .led, s, t => t.led = s.led
  | .motor, s, t => t.motor = s.motor
  | .delay, s, t => t.delay = s.delay
  | .timer, s, t => t.timer = s.timer
  | .step, s, t => t.stepNo = s.stepNo
  | .msg, s, t => t.msg = s.msg
  | .midx, s, t => t.midx = s.midx
  | .seq, s, t => t.seq = s.seq
  | .armed, s, t => t.armed = s.armed
  | .done, s, t => t.done = s.done
  | .txBusy, s, t => t.txBusy = s.txBusy
  | .ieG, s, t => t.ieG = s.ieG
  | .ieP, s, t => t.ieP = s.ieP
  | .ieAdc, s, t => t.ieAdc = s.ieAdc

/-- The operations that write registers, by the row or rows of rule R10 they stand in: `SELECT` and its cases are
one writer. -/
inductive Writer where
  | setup | enter | complete | capture | select | txsend | txdone | pinit | tick | expire | padv | ack | reset
  deriving DecidableEq, Repr

/-- The writer an instruction is. -/
def writerOf : Instr → Writer
  | .band0 _ _ => .select
  | .band1 _ _ => .select
  | .band2 _ _ => .select
  | .band3 _ _ => .select
  | .band4 _ _ => .select
  | .band5 _ _ => .select
  | .band6 _ _ => .select
  | .band7 _ _ => .select
  | .setup => .setup
  | .enter => .enter
  | .complete _ => .complete
  | .capture => .capture
  | .select => .select
  | .txsend => .txsend
  | .txdone => .txdone
  | .pinit => .pinit
  | .tick => .tick
  | .expire => .expire
  | .padv => .padv
  | .ack => .ack
  | .reset => .reset

/-- The column "written by" of rule R10; for `SEQ`, the operations that move it in rule R21. Reset writes every
register besides (rule R161). -/
def Reg.writers : Reg → List Writer
  | .raw => [.complete]
  | .scaled => [.capture]
  | .band => [.select]
  | .led => [.select]
  | .motor => [.pinit, .padv]
  | .delay => [.select]
  | .timer => [.pinit, .padv, .tick]
  | .step => [.pinit, .padv]
  | .msg => [.select]
  | .midx => [.select, .txdone]
  | .seq => [.setup, .enter, .capture, .select, .txdone, .pinit, .expire, .padv, .ack]
  | .armed => [.setup, .ack, .complete]
  | .done => [.complete, .ack, .setup]
  | .txBusy => [.txsend, .txdone]
  | .ieG => [.setup]
  | .ieP => [.setup]
  | .ieAdc => [.setup]

/-- The transition table of rule R21, with the reset of rule R161: `SEQ` after an operation. -/
def seqAfter (s : State) : Writer → SeqCode
  | .setup => Seq.idle
  | .enter => Seq.capture
  | .complete => s.seq
  | .capture => Seq.select
  | .select => if bandBits s.scaled = 0 ∨ bandBits s.scaled = 7 then Seq.emit else Seq.pinit
  | .txsend => s.seq
  | .txdone => if s.seq = Seq.emit ∧ s.txBusy = true ∧ s.midx + 1 = msgLen then Seq.pinit else s.seq
  | .pinit => Seq.hold
  | .tick => s.seq
  | .expire => if s.stepNo < nAdvances then Seq.padv else Seq.ack
  | .padv => Seq.hold
  | .ack => Seq.idle
  | .reset => Seq.boot

/-- The port an operation can emit on (rule R7): the kinds of event of rule R34. -/
def Event.emittedBy : Event → List Writer
  | .adcStart => [.setup, .ack]
  | .led _ => [.select]
  | .tx _ => [.txsend]
  | .motor _ => [.pinit, .padv]
  | .tickMs => [.tick]

/-! ## Samples with the same band bits -/

/-- Two states that differ at most in `RAW` and `SCALED`, and not in the band bits of either (rules R57, R76). -/
def State.AgreesOnBand (s t : State) : Prop :=
  t = { s with raw := t.raw, scaled := t.scaled } ∧
  sampleBand t.raw = sampleBand s.raw ∧ bandBits t.scaled = bandBits s.scaled

/-- Two answers that agree: next states that agree, or the same refusal. -/
def Result.AgreesOnBand : Result → Result → Prop
  | .next s, .next t => s.AgreesOnBand t
  | .refused r, .refused q => r = q
  | _, _ => False

/-! ## Traces and lengths (in the order of emission) -/

/-- A message: one `tx` event a byte, in index order (rule R103). -/
def messageLog (m : MsgCode) : List Event := (msgRom m).map Event.tx

/-- A revolution: 73 phase writes, each with its hold of `d` ticks (rule R114). -/
def revolutionLog (d : Nat) : List Event :=
  (List.range 73).flatMap fun n => Event.motor (phaseOf n) :: List.replicate d Event.tickMs

/-- The steps of a revolution: `PINIT`, 72 `PADV`, 73 `EXPIRE`, `73 d` `TICK` (rule R114, vector V8). -/
def revolutionSteps (d : Nat) : Nat := 1 + 72 + 73 + 73 * d

/-- What the environment does for one served sample under the zero-time reading: one completion, 19 completions of
the transmitter if the band has a message, and the ticks of the revolution (rule R66, vector V8). -/
def sampleTurns (r : Sample) : List Agent :=
  [Agent.adc r] ++
  (if (bandRom (sampleBand r)).msg = Msg.none then [] else List.replicate 19 Agent.transmitter) ++
  List.replicate (73 * (bandRom (sampleBand r)).delay.toNat) Agent.timeBase

/-- The steps of one served sample (vector V8). -/
def sampleSteps (r : Sample) : Nat :=
  4 + (if (bandRom (sampleBand r)).msg = Msg.none then 0 else 38) +
  revolutionSteps (bandRom (sampleBand r)).delay.toNat + 1

/-- The trace of one served sample, in the order of rules R50 and R170. -/
def sampleLog (r : Sample) : List Event :=
  [Event.led (bandRom (sampleBand r)).ledpat] ++ messageLog (bandRom (sampleBand r)).msg ++
  revolutionLog (bandRom (sampleBand r)).delay.toNat ++ [Event.adcStart]

/-! ## Fairness premises (rule R6) -/

/-- `ADC_FAIR`: in the schedule the ADC's turn always comes again, so an armed conversion completes (D19). -/
def AdcFair (f : Nat → Agent) : Prop := ∀ n, ∃ m, n ≤ m ∧ ∃ r, f m = .adc r

/-- `TX_FAIR`: in the schedule the transmitter's turn always comes again, so a byte in flight completes (D20). -/
def TxFair (f : Nat → Agent) : Prop := ∀ n, ∃ m, n ≤ m ∧ f m = .transmitter

/-- The first `n` turns of a schedule. -/
def scheduleOf (f : Nat → Agent) (n : Nat) : List Agent := (List.range n).map f

end Sys2Proof.Machine
end

