-- ==== Sys2Proof/Certificates/Slice0/Obligations.lean ====
section
/-! DEFINITION. The statements for the provers, in the order of OBLIGATIONS.json. There is no read-write memory
(rule R40), so the frame of an operation is about registers, flags, enables and the trace; a statement whose
conclusion is an equation with a whole state says all of it. -/

open Sys2Proof Sys2Proof.Machine

/-! ## Reset and setup -/

/-- Rule R161: what `RESET` writes, from any state, that the output ports show the two parameters then, and that it
emits nothing. The eight registers that "hold no value" are not spoken of. -/
def Obligations.ResetGivesTheResetValues : Prop :=
  ∀ s : State, ∃ t : State, exec .reset s = .next t ∧
    t.seq = Seq.boot ∧ t.ieG = false ∧ t.ieP = false ∧ t.ieAdc = false ∧
    t.armed = false ∧ t.done = false ∧ t.txBusy = false ∧
    t.led = Config.ledReset ∧ t.motor = Config.motorReset ∧ t.trace = s.trace ∧
    t.ledPort = Config.ledReset ∧ t.motorPort = Config.motorReset.extractLsb' 4 4

/-- Rule R35: the state after reset, as far as the spec gives values; `SETUP` is the operation enabled there, and
its `adc_start` is the first event of the trace. -/
def Obligations.StateAfterReset : Prop :=
  State.reset.seq = Seq.boot ∧
  State.reset.ieG = false ∧ State.reset.ieP = false ∧ State.reset.ieAdc = false ∧
  State.reset.armed = false ∧ State.reset.done = false ∧ State.reset.txBusy = false ∧
  State.reset.led = Config.ledReset ∧ State.reset.motor = Config.motorReset ∧
  State.reset.blockOp = some .setup ∧
  ∃ t : State, exec .setup State.reset = .next t ∧ t.trace = [Event.adcStart]

/-- Rule R162: what `SETUP` does, and that it runs once per reset, for only `RESET` brings `SEQ` back to
`S_BOOT`. -/
def Obligations.SetupArmsTheFirstConversion : Prop :=
  (∀ s : State, s.seq = Seq.boot →
    exec .setup s = .next { s with
      ieG := true, ieP := true, ieAdc := true, done := false, armed := true, seq := Seq.idle,
      trace := Event.adcStart :: s.trace }) ∧
  (∀ (i : Instr) (s t : State), exec i s = .next t → s.seq ≠ Seq.boot → t.seq = Seq.boot → i = .reset)

/-! ## The notification path -/

/-- Rule R139: what `COMPLETE` does with a conversion armed, for any sample, and `RAW` holds its value until the next
`COMPLETE`, or a reset. (With none armed: `CompletionsOutsideTheirGuards`.) -/
def Obligations.CompleteDeliversTheSample : Prop :=
  (∀ (s : State) (r : Sample), s.armed = true →
    exec (.complete r) s = .next { s with raw := r, armed := false, done := true }) ∧
  (∀ (i : Instr) (s t : State), exec i s = .next t → i ≠ .reset → (∀ r : Sample, i ≠ .complete r) → t.raw = s.raw)

/-- Rule R144. -/
def Obligations.EnterTakesTheNotification : Prop :=
  ∀ s : State, s.seq = Seq.idle → s.done = true → s.ieG = true → s.ieP = true → s.ieAdc = true →
    exec .enter s = .next { s with seq := Seq.capture }

/-- Rules R140 and R156: in `S_IDLE` with the notification not pending, or an enable at 0, nothing is delivered and
the block's turn passes. The refusal is the model's reading: log entry 6. The passing turn is the model's: log
entry 4. -/
def Obligations.NotificationWaitsForItsEnables : Prop :=
  ∀ s : State, s.seq = Seq.idle →
    (s.done = false ∨ s.ieG = false ∨ s.ieP = false ∨ s.ieAdc = false) →
    exec .enter s = .refused .notEnabled ∧ s.fetchTurn .block = .pass s.useTurn

/-! ## Sample capture -/

/-- Rule R73. -/
def Obligations.CaptureDiscardsTheTwoLowBits : Prop :=
  ∀ s : State, s.seq = Seq.capture →
    ∃ c : Byte, c.toNat = s.raw.toNat / 4 ∧
      exec .capture s = .next { s with scaled := c, seq := Seq.select }

/-- Rule R75. -/
def Obligations.AckClearsAndRearms : Prop :=
  ∀ s : State, s.seq = Seq.ack →
    exec .ack s = .next { s with
      done := false, armed := true, seq := Seq.idle, trace := Event.adcStart :: s.trace }

/-! ## Band selection -/

/-- Rule R88: the band is `band_of` of the exact percentage, and its table entry is what `SELECT` writes. -/
def Obligations.SelectWritesTheEntryOfItsBand : Prop :=
  ∀ s : State, s.seq = Seq.select →
    ∃ k : BandIndex, bandOf (pct s.scaled) = some k ∧
      exec .select s = .next { s with
        band := k, led := (bandRom k).ledpat, delay := (bandRom k).delay, msg := (bandRom k).msg, midx := 0,
        seq := if (bandRom k).msg = Msg.none then Seq.pinit else Seq.emit,
        trace := Event.led (bandRom k).ledpat :: s.trace }

/-- Rules R89 to R96: the eight cases, each for the counts the rule names, with any operands. -/
def Obligations.BandOperationsWriteTheirRows : Prop :=
  ∀ (s : State) (sub : BitVec 5) (frac : BitVec 2), s.seq = Seq.select →
    (s.scaled.toNat ≤ 31 → exec (.band0 sub frac) s = .next { s with
      band := 0, led := 0x01, delay := 30, msg := Msg.min, midx := 0, seq := Seq.emit,
      trace := Event.led 0x01 :: s.trace }) ∧
    (32 ≤ s.scaled.toNat → s.scaled.toNat ≤ 63 → exec (.band1 sub frac) s = .next { s with
      band := 1, led := 0x03, delay := 26, msg := Msg.none, midx := 0, seq := Seq.pinit,
      trace := Event.led 0x03 :: s.trace }) ∧
    (64 ≤ s.scaled.toNat → s.scaled.toNat ≤ 95 → exec (.band2 sub frac) s = .next { s with
      band := 2, led := 0x07, delay := 23, msg := Msg.none, midx := 0, seq := Seq.pinit,
      trace := Event.led 0x07 :: s.trace }) ∧
    (96 ≤ s.scaled.toNat → s.scaled.toNat ≤ 127 → exec (.band3 sub frac) s = .next { s with
      band := 3, led := 0x0F, delay := 20, msg := Msg.none, midx := 0, seq := Seq.pinit,
      trace := Event.led 0x0F :: s.trace }) ∧
    (128 ≤ s.scaled.toNat → s.scaled.toNat ≤ 159 → exec (.band4 sub frac) s = .next { s with
      band := 4, led := 0x1F, delay := 18, msg := Msg.none, midx := 0, seq := Seq.pinit,
      trace := Event.led 0x1F :: s.trace }) ∧
    (160 ≤ s.scaled.toNat → s.scaled.toNat ≤ 191 → exec (.band5 sub frac) s = .next { s with
      band := 5, led := 0x3F, delay := 15, msg := Msg.none, midx := 0, seq := Seq.pinit,
      trace := Event.led 0x3F :: s.trace }) ∧
    (192 ≤ s.scaled.toNat → s.scaled.toNat ≤ 223 → exec (.band6 sub frac) s = .next { s with
      band := 6, led := 0x7F, delay := 13, msg := Msg.none, midx := 0, seq := Seq.pinit,
      trace := Event.led 0x7F :: s.trace }) ∧
    (224 ≤ s.scaled.toNat → exec (.band7 sub frac) s = .next { s with
      band := 7, led := 0xFF, delay := 10, msg := Msg.max, midx := 0, seq := Seq.emit,
      trace := Event.led 0xFF :: s.trace })

/-- Rules R55 and R88: `SELECT` is sub-decoded by the sample word. In `S_SELECT`, for every sample word that
`CAPTURE` reduces to `SCALED`, the operation the word decodes to does what `SELECT` does, and both complete. -/
def Obligations.SelectRunsTheDecodedSampleWord : Prop :=
  ∀ (s : State) (w : Sample), s.seq = Seq.select → reduceSample w = s.scaled →
    ∃ t : State, exec (decodeSample w) s = .next t ∧ exec .select s = .next t

/-- Rules R89 to R96: a band operation answers a next state only for the counts of its own band. The refusal is the
model's reading: log entry 6. -/
def Obligations.SampleWordOfAnotherBandIsRefused : Prop :=
  ∀ (s : State) (w : Sample), s.seq = Seq.select → sampleBand w ≠ bandBits s.scaled →
    exec (decodeSample w) s = .refused .otherBand

/-! ## The message -/

/-- Rule R101. -/
def Obligations.TxsendHandsOverTheNextByte : Prop :=
  ∀ s : State, s.seq = Seq.emit → s.txBusy = false → s.midx < 19 → (s.msg = Msg.min ∨ s.msg = Msg.max) →
    ∃ b : Byte, (msgRom s.msg)[s.midx.toNat]? = some b ∧
      exec .txsend s = .next { s with txBusy := true, trace := Event.tx b :: s.trace }

/-- Rules R43 and R64: a selector without a string indexes nothing; `TXSEND` is refused. The refusal is the model's
reading: log entry 10. -/
def Obligations.SelectorWithoutStringIsRefused : Prop :=
  ∀ s : State, s.seq = Seq.emit → s.txBusy = false → s.midx < 19 → (s.msg = Msg.none ∨ s.msg = 3) →
    exec .txsend s = .refused .noSuchMessage

/-- Rule R102: a completion advances the message and ends it after the 19th byte; a `tx_done` event with no byte in
flight has no effect. (`MIDX` at 19 or above, and `TXBUSY` 1 outside `S_EMIT`, which no run reaches:
`OperationsBeyondTheirRanges` and `CompletionsOutsideTheirGuards`.) -/
def Obligations.TxdoneAdvancesTheMessage : Prop :=
  ∀ s : State,
    (s.seq = Seq.emit → s.txBusy = true → s.midx < 19 →
      exec .txdone s = .next { s with
        txBusy := false, midx := s.midx + 1, seq := if s.midx + 1 = 19 then Seq.pinit else Seq.emit }) ∧
    (s.txBusy = false → exec .txdone s = .next s)

/-! ## The phase sequencer and the delay timer -/

/-- Rule R111. -/
def Obligations.PinitStartsTheRevolution : Prop :=
  ∀ s : State, s.seq = Seq.pinit →
    exec .pinit s = .next { s with
      motor := 0x80, stepNo := 0, timer := s.delay, seq := Seq.hold, trace := Event.motor 0x80 :: s.trace }

/-- Rule R112: on line 4 the wrap takes the place of the shift. (`STEP` at 72 or above, and a `MOTOR` that is none of
the four phases, which no run reaches: `OperationsBeyondTheirRanges`.) -/
def Obligations.PadvMovesTheActiveLine : Prop :=
  ∀ s : State, s.seq = Seq.padv → s.stepNo < 72 →
    ∀ v : Byte, (s.motor = 0x10 ∧ v = 0x80) ∨
        ((s.motor = 0x80 ∨ s.motor = 0x40 ∨ s.motor = 0x20) ∧ v = s.motor >>> 1) →
      exec .padv s = .next { s with
        motor := v, stepNo := s.stepNo + 1, timer := s.delay, seq := Seq.hold,
        trace := Event.motor v :: s.trace }

/-- Rule R113. -/
def Obligations.ExpireAdvancesOrFinishes : Prop :=
  ∀ s : State, s.seq = Seq.hold → s.timer = 0 →
    exec .expire s = .next { s with seq := if s.stepNo.toNat < 72 then Seq.padv else Seq.ack }

/-- Rule R127: the count goes down by one, nothing else of the block changes, and nothing is emitted. -/
def Obligations.TickCountsDownOneMillisecond : Prop :=
  ∀ s : State, s.seq = Seq.hold → s.timer ≠ 0 →
    ∃ (c : Byte) (t : State), c.toNat + 1 = s.timer.toNat ∧ exec .tick s = .next t ∧
      { t with trace := s.trace } = { s with timer := c } ∧ t.emitted = s.emitted

/-- Rule R131: a `tick_ms` event outside a hold, or at 0, changes nothing and emits nothing. -/
def Obligations.TickOutsideAHoldChangesNothing : Prop :=
  ∀ s : State, (s.seq ≠ Seq.hold ∨ s.timer = 0) →
    ∃ t : State, exec .tick s = .next t ∧ { t with trace := s.trace } = s ∧ t.emitted = s.emitted

/-- Rule R61: the successor of a phase is one line lower, the successor of the last is the first, and nothing else
has one. -/
def Obligations.PhasesFollowEachOtherCyclically : Prop :=
  (∀ n : Nat, nextPhase (phaseOf n) = some (phaseOf (n + 1))) ∧
  (∀ m : Byte, nextPhase m ≠ none ↔ ∃ n : Nat, n < 4 ∧ m = phaseOf n)

/-! ## Tables, percentage and band function -/

/-- Rules R42, R44 and R62: the contents of both tables; each LED pattern is the thermometer code of its band. The
ASCII code: log entry 11. -/
def Obligations.TablesHoldTheirContents : Prop :=
  [0, 1, 2, 3, 4, 5, 6, 7].map bandRom =
    [⟨0x01, 30, 1⟩, ⟨0x03, 26, 0⟩, ⟨0x07, 23, 0⟩, ⟨0x0F, 20, 0⟩,
     ⟨0x1F, 18, 0⟩, ⟨0x3F, 15, 0⟩, ⟨0x7F, 13, 0⟩, ⟨0xFF, 10, 2⟩] ∧
  (∀ k : BandIndex, (bandRom k).ledpat.toNat = 2 ^ (k.toNat + 1) - 1) ∧
  msgRom 1 =
    [0x56, 0x65, 0x6C, 0x6F, 0x63, 0x69, 0x64, 0x61, 0x64, 0x65, 0x20, 0x4D, 0x69, 0x6E, 0x69, 0x6D, 0x61, 0x20,
     0x0D] ∧
  msgRom 2 =
    [0x56, 0x65, 0x6C, 0x6F, 0x63, 0x69, 0x64, 0x61, 0x64, 0x65, 0x20, 0x4D, 0x61, 0x78, 0x69, 0x6D, 0x61, 0x20,
     0x0D]

/-- Rule R74, items 1 to 3. -/
def Obligations.PercentageRisesFromZeroToHundred : Prop :=
  pct 0 = 0 ∧ pct 255 = 100 ∧
  (∀ c : Byte, 0 ≤ pct c ∧ pct c ≤ 100) ∧
  (∀ c d : Byte, d.toNat = c.toNat + 1 → pct d - pct c = 20 / 51)

/-- Rule R74, items 4 and 5: no count comes nearer to a band boundary than 5/102, which counts 32 and 223 reach. -/
def Obligations.PercentageKeepsItsDistanceFromBoundaries : Prop :=
  (∀ (c : Byte) (k : Nat), 1 ≤ k → k ≤ 7 → 5 / 102 ≤ |pct c - 12.5 * k|) ∧
  |pct 32 - 12.5| = 5 / 102 ∧ |pct 223 - 87.5| = 5 / 102

/-- Rule R74, item 5: `PCT_FORMAT` cannot change a band. The format is a premise: log entry 12. -/
def Obligations.EveryQualifyingFormatSelectsTheSameBand : Prop :=
  ∀ f : Byte → ℚ, QualifiesFormat f → ∀ c : Byte, bandCascade (f c) = bandBits c

/-- Rule R86: right-inclusive ranges that partition [0, 100]; rule R99: outside it `band_of` has no answer. -/
def Obligations.BandRangesAreRightInclusive : Prop :=
  (∀ p : ℚ, 0 ≤ p → p ≤ 100 → ∀ k : BandIndex,
    bandOf p = some k ↔ (k = 0 ∨ 12.5 * k.toNat < p) ∧ (k = 7 ∨ p ≤ 12.5 * (k.toNat + 1))) ∧
  (∀ p : ℚ, (p < 0 ∨ 100 < p) → bandOf p = none)

/-- Rule R87. -/
def Obligations.BandIsTheTopThreeBits : Prop :=
  (∀ c : Byte, bandOf (pct c) = some (bandBits c) ∧ (bandBits c).toNat = c.toNat / 32) ∧
  (∀ r : Sample, bandOf (pct (reduceSample r)) = some (sampleBand r))

/-! ## Encodings -/

/-- Every instruction, with every operand at every value, comes back from its encoding. -/
def Obligations.DecodeOfEncodeIsTheInstruction : Prop :=
  ∀ i : Instr, decode (encode i) = .ok i

/-- Each word has one meaning: an encoded form that decodes is the encoding of what it decodes to. -/
def Obligations.EncodeOfDecodeIsTheWord : Prop :=
  ∀ (c : Code) (i : Instr), decode c = .ok i → encode i = c

/-- The decoder accepts exactly the rows of rules R58 and R60. -/
def Obligations.DecoderAcceptsExactlyTheTablesWords : Prop :=
  ∀ c : Code, (∃ i : Instr, decode c = .ok i) ↔ c.wf = true

/-- Rule R58: every sample word selects exactly one of the eight rows, and decodes to that row's operation. -/
def Obligations.EverySampleWordSelectsExactlyOneRow : Prop :=
  ∀ w : Sample, ∃ k : BandIndex,
    (∀ (j : BandIndex) (row : SampleRow), sampleRows[j.toNat]? = some row → (row.hits w = true ↔ j = k)) ∧
    decodeSample w = bandInstr k (sampleSub w) (sampleFrac w)

/-- Rule R64: codes 9 to 15 are refused by the decoder for every agent, and a state that holds one, or `MSG = 3`, is
refused by the step, unless it is the reset source's turn. Log entry 10. -/
def Obligations.ReservedCodesAreRefused : Prop :=
  (∀ (a : Agent) (c : SeqCode), 8 < c → decode (.formatQ a c) = .error (.reservedCode c)) ∧
  (∀ s : State, 8 < s.seq → s.nextTurn ≠ .resetSource → step s = .refused (.illegalSeq s.seq)) ∧
  (∀ s : State, s.seq ≤ 8 → s.msg = 3 → s.nextTurn ≠ .resetSource → step s = .refused .illegalMsg)

/-- Words written out from rules R58 and R60 decode to their operations. How a word is read is the model's choice: log
entry 8. -/
def Obligations.WordsOfTheTableDecode : Prop :=
  decodeTableWord 16 0b0001111111 = some (.band0 31 3) ∧
  decodeTableWord 16 0b1010111100 = some (.band5 15 0) ∧
  decodeTableWord 8 0b0000 = some .setup ∧
  decodeTableWord 8 0b1000 = some .ack ∧
  decode (.formatQ (.adc 700) 0b0001) = .ok (.complete 700) ∧
  decode (.formatQ .timeBase 0b0110) = .ok .tick ∧
  decodeTableWord 8 0b1001 = none

/-! ## The step -/

/-- A step runs the decoded operation. In a state of the machine, on the block's turn in the free order: the operation
`SEQ` decodes to runs where its guard holds, after the turn is used up, and where it does not hold the block waits and
only the turn is used up. Turns are the model's choice: log entry 4. -/
def Obligations.StepRunsTheDecodedOperation : Prop :=
  ∀ (s : State) (i : Instr), s.seq ≤ 8 → s.msg ≠ 3 → s.zeroTime = false → s.nextTurn = .block →
    decode (.formatQ .block s.seq) = .ok i →
    (enabled i s = true → step s = exec i s.useTurn) ∧
    (enabled i s = false → step s = .next s.useTurn)

/-- Rule R136: the environment's turns, where the block does not come first: each runs that agent's step after the
turn is used up, and the ADC takes none with nothing armed. Rule R165: the reset source's turn comes first in any
state. Turns are the model's choice: log entries 4, 7 and 13. -/
def Obligations.StepGivesTheEnvironmentItsTurn : Prop :=
  (∀ s : State, s.nextTurn = .resetSource → step s = exec .reset s.useTurn) ∧
  (∀ s : State, s.seq ≤ 8 → s.msg ≠ 3 → (s.zeroTime = false ∨ s.blockOp = none) →
    (∀ r : Sample, s.nextTurn = .adc r → s.armed = true → step s = exec (.complete r) s.useTurn) ∧
    (∀ r : Sample, s.nextTurn = .adc r → s.armed = false → step s = .next s.useTurn) ∧
    (s.nextTurn = .transmitter → step s = exec .txdone s.useTurn) ∧
    (s.nextTurn = .timeBase → step s = exec .tick s.useTurn))

/-- Rule R137, the zero-time reading as a named premise: an enabled operation of the block runs before the turn of the
environment, which stays to come. The field `zeroTime` is the model's choice: log entry 5. -/
def Obligations.ZeroTimeRunsTheBlockFirst : Prop :=
  ∀ (s : State) (i : Instr), s.seq ≤ 8 → s.msg ≠ 3 → s.zeroTime = true → s.nextTurn ≠ .resetSource →
    s.blockOp = some i → step s = exec i s

/-- Rules R7, R60 and R88: an operation of the block, and each of the eight cases of `SELECT` outside `S_SELECT`, run
outside its guard, is not enabled; so it changes nothing. The refusal is the model's reading: log entry 6. (A case of
`SELECT` in `S_SELECT` for another band: `SampleWordOfAnotherBandIsRefused`.) -/
def Obligations.BlockOperationsFireOnlyWhenEnabled : Prop :=
  (∀ (i : Instr) (c : SeqCode) (s : State), encode i = .formatQ .block c → enabled i s = false →
    exec i s = .refused .notEnabled) ∧
  (∀ (i : Instr) (w : Sample) (s : State), encode i = .formatS w → s.seq ≠ Seq.select →
    exec i s = .refused .notEnabled)

/-- Rule R137: at every moment at most one operation of the block is enabled. -/
def Obligations.AtMostOneBlockOperationIsEnabled : Prop :=
  ∀ (i j : Instr) (c d : SeqCode) (s : State),
    encode i = .formatQ .block c → encode j = .formatQ .block d →
    enabled i s = true → enabled j s = true → i = j

/-! ## What operations leave unchanged -/

/-- Rule R10, the column "written by", and for `SEQ` rule R21: an operation leaves every register unchanged of which it
is no writer; only `RESET` writes besides. The model's own fields but the trace are written by no operation, which is
the model's choice: log entries 4, 5 and 13. -/
def Obligations.RegistersHaveOnlyTheirWriters : Prop :=
  ∀ (i : Instr) (s t : State), exec i s = .next t →
    (∀ x : Reg, writerOf i ≠ .reset → writerOf i ∉ x.writers → x.same s t) ∧
    t.turns = s.turns ∧ t.clock = s.clock ∧ t.zeroTime = s.zeroTime

/-- Rule R21: `SEQ` moves as the transition table says and in no other way. -/
def Obligations.SeqMovesOnlyByTheTransitionTable : Prop :=
  ∀ (i : Instr) (s t : State), exec i s = .next t → t.seq = seqAfter s (writerOf i)

/-- Rules R7 and R34: an operation emits at most one event, and only on a port that is its own. The mark of a tick is
the model's choice: log entry 3. -/
def Obligations.EventsComeOnlyFromTheirOperations : Prop :=
  ∀ (i : Instr) (s t : State), exec i s = .next t →
    t.trace = s.trace ∨ ∃ e : Event, t.trace = e :: s.trace ∧ writerOf i ∈ e.emittedBy

/-- Rules R57, R76 and R98: the low bits of a sample have no effect. Two states that differ only in them answer
steps that differ only in them, so with the same trace; and two completions with the same band bits do. -/
def Obligations.LowSampleBitsHaveNoEffect : Prop :=
  (∀ s t : State, s.AgreesOnBand t → Result.AgreesOnBand (step s) (step t)) ∧
  (∀ (s : State) (r q : Sample), s.armed = true → sampleBand r = sampleBand q →
    Result.AgreesOnBand (exec (.complete r) s) (exec (.complete q) s))

/-! ## Invariants -/

/-- Rule R32: every step keeps the invariant, from every state that meets it. After a reset its item 6 rests on the
zeros of log entry 1. -/
def Obligations.EveryStepKeepsTheInvariant : Prop :=
  ∀ s t : State, s.Inv → step s = .next t → t.Inv

/-- Rule R32: the state after reset meets the invariant. Its item 6 rests on the zeros of log entry 1. -/
def Obligations.ResetMeetsTheInvariant : Prop := State.reset.Inv

/-- Rule R146: no operation of the block can fault, and in a state of the machine no step stops. -/
def Obligations.NoStepStopsUnderTheInvariant : Prop :=
  ∀ s : State, s.Inv → ∃ t : State, step s = .next t

/-- Rule R32 item 8: `SELECT` makes `LED`, `DELAY` and `BAND` agree, from any state in `S_SELECT`, and every step but
a reset keeps them so. -/
def Obligations.SelectedBandIsKeptUntilReset : Prop :=
  (∀ s : State, s.seq = Seq.select → ∃ t : State, exec .select s = .next t ∧ t.Selected) ∧
  (∀ s t : State, s.Selected → s.nextTurn ≠ .resetSource → step s = .next t → t.Selected)

/-- Rule R115: `PINIT` makes exactly one of the four lines active, and from then on, until a reset, every step
leaves `MOTOR` at one of the four phases. -/
def Obligations.ExactlyOneMotorLineStaysActive : Prop :=
  (∀ s : State, s.seq = Seq.pinit → ∃ t : State, exec .pinit s = .next t ∧ nextPhase t.motor ≠ none) ∧
  (∀ s t : State, nextPhase s.motor ≠ none → s.nextTurn ≠ .resetSource → step s = .next t →
    nextPhase t.motor ≠ none) ∧
  (∀ m : Byte, nextPhase m ≠ none → m = 0x80 ∨ m = 0x40 ∨ m = 0x20 ∨ m = 0x10)

/-- Rule R143: of a completion, a `tx_done` and a tick at most one has an effect. -/
def Obligations.ExternalEventsNeverCompete : Prop :=
  ∀ s : State, s.Inv →
    (s.armed = true → s.canTxDone = false ∧ s.canTick = false) ∧
    (s.canTxDone = true → s.armed = false ∧ s.canTick = false) ∧
    (s.canTick = true → s.armed = false ∧ s.canTxDone = false)

/-- Rules R33 and R135, D24: in the nine states the port `busy` is 1 exactly while the block is in the handler. -/
def Obligations.BusyShowsTheHandler : Prop :=
  ∀ s : State, s.seq ≤ Seq.ack → (s.busy = true ↔ s.inHandler)

/-- Rules R145 and R168: from `ENTER` to `ACK` no step but a reset takes a new sample or delivers a notification:
`RAW`, `DONE` and `ARMED` stay, and the block stays in the handler, except for the step of `ACK`, which returns to
`S_IDLE`. -/
def Obligations.HandlerIsNotReentered : Prop :=
  ∀ s t : State, s.Inv → s.inHandler → s.nextTurn ≠ .resetSource → step s = .next t →
    t.raw = s.raw ∧
    ((t.inHandler ∧ Seq.capture < t.seq ∨ t.seq = s.seq) ∧ t.done = true ∧ t.armed = false ∨
     s.seq = Seq.ack ∧ t.seq = Seq.idle ∧ t.done = false ∧ t.armed = true)

/-- Rule R119: from `PINIT` to the last `EXPIRE` no step but a reset changes a register or flag of the block other than
`MOTOR`, `STEP`, `TIMER` and `SEQ`, has a conversion armed, or emits anything but a phase write or the mark of a tick.
The mark is the model's choice: log entry 3. -/
def Obligations.RevolutionBlocksEverythingElse : Prop :=
  ∀ s t : State, s.Inv → (s.seq = Seq.pinit ∨ s.seq = Seq.hold ∨ s.seq = Seq.padv) →
    s.nextTurn ≠ .resetSource → step s = .next t →
    t.led = s.led ∧ t.band = s.band ∧ t.delay = s.delay ∧ t.scaled = s.scaled ∧ t.raw = s.raw ∧
    t.msg = s.msg ∧ t.midx = s.midx ∧ s.armed = false ∧ t.armed = false ∧ t.done = s.done ∧ t.txBusy = s.txBusy ∧
    t.ieG = s.ieG ∧ t.ieP = s.ieP ∧ t.ieAdc = s.ieAdc ∧ (t.seq = s.seq ∨ t.phaseWritten) ∧
    (t.trace = s.trace ∨ t.trace = Event.tickMs :: s.trace ∨ ∃ v, t.trace = Event.motor v :: s.trace)

/-- Rule R174: `ACK` reaches a quiescent point, with the values the rule lists. -/
def Obligations.AckReachesTheQuiescentPoint : Prop :=
  ∀ s : State, s.Inv → s.seq = Seq.ack →
    ∃ t : State, exec .ack s = .next t ∧ t.quiescent ∧ t.done = false ∧ t.txBusy = false ∧
      t.motor = 0x80 ∧ t.stepNo = 72 ∧ t.timer = 0 ∧ t.led = (bandRom t.band).ledpat ∧
      t.midx = if t.msg = Msg.none then 0 else 19

/-! ## Runs -/

/-- Rule R129: a hold lasts exactly as many `TICK` steps as `TIMER` holds, in either order of steps. The marks of
the ticks in the trace are the model's (log entry 3). -/
def Obligations.HoldLastsExactlyItsTicks : Prop :=
  ∀ (s : State) (rest : List Agent), s.seq = Seq.hold → s.msg ≠ 3 →
    s.turns = List.replicate s.timer.toNat Agent.timeBase ++ rest →
    core.run s.timer.toNat s = .next { s with
      timer := 0, turns := rest, trace := List.replicate s.timer.toNat Event.tickMs ++ s.trace }

/-- Rule R103: under the zero-time reading a message is its 19 bytes in index order, each completed before the next is
handed over, and then the block is in `S_PINIT`. Turns and the reading are the model's choice: log entries 4, 5 and
11. -/
def Obligations.MessageSendsItsNineteenBytes : Prop :=
  ∀ (s : State) (rest : List Agent),
    s.seq = Seq.emit → s.txBusy = false → s.midx = 0 → (s.msg = Msg.min ∨ s.msg = Msg.max) →
    s.zeroTime = true → s.turns = List.replicate 19 Agent.transmitter ++ rest →
    core.run 38 s = .next { s with
      midx := 19, seq := Seq.pinit, turns := rest, trace := (messageLog s.msg).reverse ++ s.trace }

/-- Rules R114, R116 and R118, under the zero-time reading of rule R137: for every `DELAY` a revolution makes exactly
73 phase writes, cyclically from line 7, each held for `DELAY` ticks, and ends on line 7 in `S_ACK`. Turns, the
reading and the marks are the model's choice: log entries 3 to 5. -/
def Obligations.RevolutionMakes73PhaseWrites : Prop :=
  ∀ (s : State) (a : Agent) (rest : List Agent),
    s.seq = Seq.pinit → s.msg ≠ 3 → s.zeroTime = true → a ≠ .resetSource →
    s.turns = List.replicate (73 * s.delay.toNat) Agent.timeBase ++ a :: rest →
    core.run (revolutionSteps s.delay.toNat) s = .next { s with
      motor := 0x80, stepNo := 72, timer := 0, seq := Seq.ack, turns := a :: rest,
      trace := (revolutionLog s.delay.toNat).reverse ++ s.trace }

/-- Rules R50, R170 and R174, under the zero-time reading: from a quiescent point one sample is served, with its
effects in the order led, message, phase writes, adc_start, and the block is at a quiescent point again. Turns, the
reading and the marks are the model's choice: log entries 3 to 5. -/
def Obligations.OneSampleIsServedInOrder : Prop :=
  ∀ (s : State) (r : Sample) (a : Agent) (rest : List Agent),
    s.quiescent → s.done = false → s.txBusy = false → s.enablesSet → s.msg ≠ 3 → s.zeroTime = true →
    a ≠ .resetSource → s.turns = sampleTurns r ++ a :: rest →
    core.run (sampleSteps r) s = .next { s with
      raw := r, scaled := reduceSample r, band := sampleBand r,
      led := (bandRom (sampleBand r)).ledpat, delay := (bandRom (sampleBand r)).delay,
      msg := (bandRom (sampleBand r)).msg,
      midx := if (bandRom (sampleBand r)).msg = Msg.none then 0 else 19,
      motor := 0x80, stepNo := 72, timer := 0, turns := a :: rest,
      trace := (sampleLog r).reverse ++ s.trace }

/-- Rule R105: while no `TXDONE` comes, the block stays in `S_EMIT` for ever: however many turns of the other agents
pass, nothing changes but the marks of the ticks. Turns and marks are the model's choice: log entries 3 and 4. -/
def Obligations.SilentTransmitterHangsTheBlock : Prop :=
  ∀ (s : State) (ts rest : List Agent),
    s.seq = Seq.emit → s.txBusy = true → s.armed = false → s.msg ≠ 3 →
    Agent.transmitter ∉ ts → Agent.resetSource ∉ ts → s.turns = ts ++ rest →
    core.run ts.length s = .next { s with
      turns := rest, trace := List.replicate (ts.count Agent.timeBase) Event.tickMs ++ s.trace }

/-- Rules R102 and R139: under `ADC_FAIR` an armed conversion completes, and under `TX_FAIR` a byte in flight does,
unless a reset comes first. Schedules are the model's choice: log entries 4 and 14. -/
def Obligations.FairAgentsEndTheWaits : Prop :=
  (∀ (s : State) (f : Nat → Agent), AdcFair f →
    s.seq = Seq.idle → s.armed = true → s.done = false → s.msg ≠ 3 →
    ∃ (n : Nat) (t : State), core.run n { s with turns := scheduleOf f n } = .next t ∧
      (t.done = true ∧ t.armed = false ∨ t.seq = Seq.boot)) ∧
  (∀ (s : State) (f : Nat → Agent), TxFair f →
    s.seq = Seq.emit → s.txBusy = true → s.armed = false → s.msg ≠ 3 →
    ∃ (n : Nat) (t : State), core.run n { s with turns := scheduleOf f n } = .next t ∧
      (t.txBusy = false ∧ t.midx = s.midx + 1 ∨ t.seq = Seq.boot))

/-! ## Where no run gets: readings of the model -/

/-- Outside the guards of rules R139 and R102: a completion with nothing armed is refused (D11, U8), and a `tx_done`
event outside `S_EMIT` has no effect, whatever `TXBUSY` is. Both are the model's reading: log entry 7. -/
def Obligations.CompletionsOutsideTheirGuards : Prop :=
  (∀ (s : State) (r : Sample), s.armed = false → exec (.complete r) s = .refused .spuriousCompletion) ∧
  (∀ s : State, s.seq ≠ Seq.emit → exec .txdone s = .next s)

/-- Beyond the ranges of rules R102 and R112: `MIDX` from 19 and `STEP` from 72 count on at their width, and wrap there
(log entry 9), and `PADV` with a `MOTOR` that is none of the four phases is refused (U9, log entry 10). These are the
model's reading. -/
def Obligations.OperationsBeyondTheirRanges : Prop :=
  ∀ s : State,
    (s.seq = Seq.emit → s.txBusy = true → 19 ≤ s.midx →
      exec .txdone s = .next { s with txBusy := false, midx := s.midx + 1 }) ∧
    (s.seq = Seq.padv → 72 ≤ s.stepNo → ∀ v : Byte, nextPhase s.motor = some v →
      exec .padv s = .next { s with
        motor := v, stepNo := s.stepNo + 1, timer := s.delay, seq := Seq.hold,
        trace := Event.motor v :: s.trace }) ∧
    (s.seq = Seq.padv → s.motor ≠ 0x80 → s.motor ≠ 0x40 → s.motor ≠ 0x20 → s.motor ≠ 0x10 →
      exec .padv s = .refused .motorNotOneHot)
end

