-- ==== Sys2Proof/Laws/State.lean ====
section
/-! SUPPORT. The small lemmas of the state's named updates: what each field is after each, so that no later proof
unfolds a record update. -/

namespace Sys2Proof.Machine

/-! ## setSeq -/

@[simp] theorem State.setSeq_raw (s : State) (c : SeqCode) : (s.setSeq c).raw = s.raw := rfl
@[simp] theorem State.setSeq_scaled (s : State) (c : SeqCode) : (s.setSeq c).scaled = s.scaled := rfl
@[simp] theorem State.setSeq_band (s : State) (c : SeqCode) : (s.setSeq c).band = s.band := rfl
@[simp] theorem State.setSeq_led (s : State) (c : SeqCode) : (s.setSeq c).led = s.led := rfl
@[simp] theorem State.setSeq_motor (s : State) (c : SeqCode) : (s.setSeq c).motor = s.motor := rfl
@[simp] theorem State.setSeq_delay (s : State) (c : SeqCode) : (s.setSeq c).delay = s.delay := rfl
@[simp] theorem State.setSeq_timer (s : State) (c : SeqCode) : (s.setSeq c).timer = s.timer := rfl
@[simp] theorem State.setSeq_stepNo (s : State) (c : SeqCode) : (s.setSeq c).stepNo = s.stepNo := rfl
@[simp] theorem State.setSeq_msg (s : State) (c : SeqCode) : (s.setSeq c).msg = s.msg := rfl
@[simp] theorem State.setSeq_midx (s : State) (c : SeqCode) : (s.setSeq c).midx = s.midx := rfl
@[simp] theorem State.setSeq_seq (s : State) (c : SeqCode) : (s.setSeq c).seq = c := rfl
@[simp] theorem State.setSeq_armed (s : State) (c : SeqCode) : (s.setSeq c).armed = s.armed := rfl
@[simp] theorem State.setSeq_done (s : State) (c : SeqCode) : (s.setSeq c).done = s.done := rfl
@[simp] theorem State.setSeq_txBusy (s : State) (c : SeqCode) : (s.setSeq c).txBusy = s.txBusy := rfl
@[simp] theorem State.setSeq_ieG (s : State) (c : SeqCode) : (s.setSeq c).ieG = s.ieG := rfl
@[simp] theorem State.setSeq_ieP (s : State) (c : SeqCode) : (s.setSeq c).ieP = s.ieP := rfl
@[simp] theorem State.setSeq_ieAdc (s : State) (c : SeqCode) : (s.setSeq c).ieAdc = s.ieAdc := rfl
@[simp] theorem State.setSeq_trace (s : State) (c : SeqCode) : (s.setSeq c).trace = s.trace := rfl
@[simp] theorem State.setSeq_turns (s : State) (c : SeqCode) : (s.setSeq c).turns = s.turns := rfl
@[simp] theorem State.setSeq_clock (s : State) (c : SeqCode) : (s.setSeq c).clock = s.clock := rfl
@[simp] theorem State.setSeq_zeroTime (s : State) (c : SeqCode) : (s.setSeq c).zeroTime = s.zeroTime := rfl

/-! ## emit -/

@[simp] theorem State.emit_raw (s : State) (e : Event) : (s.emit e).raw = s.raw := rfl
@[simp] theorem State.emit_scaled (s : State) (e : Event) : (s.emit e).scaled = s.scaled := rfl
@[simp] theorem State.emit_band (s : State) (e : Event) : (s.emit e).band = s.band := rfl
@[simp] theorem State.emit_led (s : State) (e : Event) : (s.emit e).led = s.led := rfl
@[simp] theorem State.emit_motor (s : State) (e : Event) : (s.emit e).motor = s.motor := rfl
@[simp] theorem State.emit_delay (s : State) (e : Event) : (s.emit e).delay = s.delay := rfl
@[simp] theorem State.emit_timer (s : State) (e : Event) : (s.emit e).timer = s.timer := rfl
@[simp] theorem State.emit_stepNo (s : State) (e : Event) : (s.emit e).stepNo = s.stepNo := rfl
@[simp] theorem State.emit_msg (s : State) (e : Event) : (s.emit e).msg = s.msg := rfl
@[simp] theorem State.emit_midx (s : State) (e : Event) : (s.emit e).midx = s.midx := rfl
@[simp] theorem State.emit_seq (s : State) (e : Event) : (s.emit e).seq = s.seq := rfl
@[simp] theorem State.emit_armed (s : State) (e : Event) : (s.emit e).armed = s.armed := rfl
@[simp] theorem State.emit_done (s : State) (e : Event) : (s.emit e).done = s.done := rfl
@[simp] theorem State.emit_txBusy (s : State) (e : Event) : (s.emit e).txBusy = s.txBusy := rfl
@[simp] theorem State.emit_ieG (s : State) (e : Event) : (s.emit e).ieG = s.ieG := rfl
@[simp] theorem State.emit_ieP (s : State) (e : Event) : (s.emit e).ieP = s.ieP := rfl
@[simp] theorem State.emit_ieAdc (s : State) (e : Event) : (s.emit e).ieAdc = s.ieAdc := rfl
@[simp] theorem State.emit_trace (s : State) (e : Event) : (s.emit e).trace = e :: s.trace := rfl
@[simp] theorem State.emit_turns (s : State) (e : Event) : (s.emit e).turns = s.turns := rfl
@[simp] theorem State.emit_clock (s : State) (e : Event) : (s.emit e).clock = s.clock := rfl
@[simp] theorem State.emit_zeroTime (s : State) (e : Event) : (s.emit e).zeroTime = s.zeroTime := rfl

/-! ## arm -/

@[simp] theorem State.arm_raw (s : State) : (s.arm).raw = s.raw := rfl
@[simp] theorem State.arm_scaled (s : State) : (s.arm).scaled = s.scaled := rfl
@[simp] theorem State.arm_band (s : State) : (s.arm).band = s.band := rfl
@[simp] theorem State.arm_led (s : State) : (s.arm).led = s.led := rfl
@[simp] theorem State.arm_motor (s : State) : (s.arm).motor = s.motor := rfl
@[simp] theorem State.arm_delay (s : State) : (s.arm).delay = s.delay := rfl
@[simp] theorem State.arm_timer (s : State) : (s.arm).timer = s.timer := rfl
@[simp] theorem State.arm_stepNo (s : State) : (s.arm).stepNo = s.stepNo := rfl
@[simp] theorem State.arm_msg (s : State) : (s.arm).msg = s.msg := rfl
@[simp] theorem State.arm_midx (s : State) : (s.arm).midx = s.midx := rfl
@[simp] theorem State.arm_seq (s : State) : (s.arm).seq = s.seq := rfl
@[simp] theorem State.arm_armed (s : State) : (s.arm).armed = true := rfl
@[simp] theorem State.arm_done (s : State) : (s.arm).done = s.done := rfl
@[simp] theorem State.arm_txBusy (s : State) : (s.arm).txBusy = s.txBusy := rfl
@[simp] theorem State.arm_ieG (s : State) : (s.arm).ieG = s.ieG := rfl
@[simp] theorem State.arm_ieP (s : State) : (s.arm).ieP = s.ieP := rfl
@[simp] theorem State.arm_ieAdc (s : State) : (s.arm).ieAdc = s.ieAdc := rfl
@[simp] theorem State.arm_trace (s : State) : (s.arm).trace = .adcStart :: s.trace := rfl
@[simp] theorem State.arm_turns (s : State) : (s.arm).turns = s.turns := rfl
@[simp] theorem State.arm_clock (s : State) : (s.arm).clock = s.clock := rfl
@[simp] theorem State.arm_zeroTime (s : State) : (s.arm).zeroTime = s.zeroTime := rfl

/-! ## loadTimer -/

@[simp] theorem State.loadTimer_raw (s : State) : (s.loadTimer).raw = s.raw := rfl
@[simp] theorem State.loadTimer_scaled (s : State) : (s.loadTimer).scaled = s.scaled := rfl
@[simp] theorem State.loadTimer_band (s : State) : (s.loadTimer).band = s.band := rfl
@[simp] theorem State.loadTimer_led (s : State) : (s.loadTimer).led = s.led := rfl
@[simp] theorem State.loadTimer_motor (s : State) : (s.loadTimer).motor = s.motor := rfl
@[simp] theorem State.loadTimer_delay (s : State) : (s.loadTimer).delay = s.delay := rfl
@[simp] theorem State.loadTimer_timer (s : State) : (s.loadTimer).timer = s.delay := rfl
@[simp] theorem State.loadTimer_stepNo (s : State) : (s.loadTimer).stepNo = s.stepNo := rfl
@[simp] theorem State.loadTimer_msg (s : State) : (s.loadTimer).msg = s.msg := rfl
@[simp] theorem State.loadTimer_midx (s : State) : (s.loadTimer).midx = s.midx := rfl
@[simp] theorem State.loadTimer_seq (s : State) : (s.loadTimer).seq = s.seq := rfl
@[simp] theorem State.loadTimer_armed (s : State) : (s.loadTimer).armed = s.armed := rfl
@[simp] theorem State.loadTimer_done (s : State) : (s.loadTimer).done = s.done := rfl
@[simp] theorem State.loadTimer_txBusy (s : State) : (s.loadTimer).txBusy = s.txBusy := rfl
@[simp] theorem State.loadTimer_ieG (s : State) : (s.loadTimer).ieG = s.ieG := rfl
@[simp] theorem State.loadTimer_ieP (s : State) : (s.loadTimer).ieP = s.ieP := rfl
@[simp] theorem State.loadTimer_ieAdc (s : State) : (s.loadTimer).ieAdc = s.ieAdc := rfl
@[simp] theorem State.loadTimer_trace (s : State) : (s.loadTimer).trace = s.trace := rfl
@[simp] theorem State.loadTimer_turns (s : State) : (s.loadTimer).turns = s.turns := rfl
@[simp] theorem State.loadTimer_clock (s : State) : (s.loadTimer).clock = s.clock := rfl
@[simp] theorem State.loadTimer_zeroTime (s : State) : (s.loadTimer).zeroTime = s.zeroTime := rfl

/-! ## writePhase -/

@[simp] theorem State.writePhase_raw (s : State) (v : Byte) : (s.writePhase v).raw = s.raw := rfl
@[simp] theorem State.writePhase_scaled (s : State) (v : Byte) : (s.writePhase v).scaled = s.scaled := rfl
@[simp] theorem State.writePhase_band (s : State) (v : Byte) : (s.writePhase v).band = s.band := rfl
@[simp] theorem State.writePhase_led (s : State) (v : Byte) : (s.writePhase v).led = s.led := rfl
@[simp] theorem State.writePhase_motor (s : State) (v : Byte) : (s.writePhase v).motor = v := rfl
@[simp] theorem State.writePhase_delay (s : State) (v : Byte) : (s.writePhase v).delay = s.delay := rfl
@[simp] theorem State.writePhase_timer (s : State) (v : Byte) : (s.writePhase v).timer = s.timer := rfl
@[simp] theorem State.writePhase_stepNo (s : State) (v : Byte) : (s.writePhase v).stepNo = s.stepNo := rfl
@[simp] theorem State.writePhase_msg (s : State) (v : Byte) : (s.writePhase v).msg = s.msg := rfl
@[simp] theorem State.writePhase_midx (s : State) (v : Byte) : (s.writePhase v).midx = s.midx := rfl
@[simp] theorem State.writePhase_seq (s : State) (v : Byte) : (s.writePhase v).seq = s.seq := rfl
@[simp] theorem State.writePhase_armed (s : State) (v : Byte) : (s.writePhase v).armed = s.armed := rfl
@[simp] theorem State.writePhase_done (s : State) (v : Byte) : (s.writePhase v).done = s.done := rfl
@[simp] theorem State.writePhase_txBusy (s : State) (v : Byte) : (s.writePhase v).txBusy = s.txBusy := rfl
@[simp] theorem State.writePhase_ieG (s : State) (v : Byte) : (s.writePhase v).ieG = s.ieG := rfl
@[simp] theorem State.writePhase_ieP (s : State) (v : Byte) : (s.writePhase v).ieP = s.ieP := rfl
@[simp] theorem State.writePhase_ieAdc (s : State) (v : Byte) : (s.writePhase v).ieAdc = s.ieAdc := rfl
@[simp] theorem State.writePhase_trace (s : State) (v : Byte) : (s.writePhase v).trace = .motor v :: s.trace := rfl
@[simp] theorem State.writePhase_turns (s : State) (v : Byte) : (s.writePhase v).turns = s.turns := rfl
@[simp] theorem State.writePhase_clock (s : State) (v : Byte) : (s.writePhase v).clock = s.clock := rfl
@[simp] theorem State.writePhase_zeroTime (s : State) (v : Byte) : (s.writePhase v).zeroTime = s.zeroTime := rfl

/-! ## enableDelivery -/

@[simp] theorem State.enableDelivery_raw (s : State) : (s.enableDelivery).raw = s.raw := rfl
@[simp] theorem State.enableDelivery_scaled (s : State) : (s.enableDelivery).scaled = s.scaled := rfl
@[simp] theorem State.enableDelivery_band (s : State) : (s.enableDelivery).band = s.band := rfl
@[simp] theorem State.enableDelivery_led (s : State) : (s.enableDelivery).led = s.led := rfl
@[simp] theorem State.enableDelivery_motor (s : State) : (s.enableDelivery).motor = s.motor := rfl
@[simp] theorem State.enableDelivery_delay (s : State) : (s.enableDelivery).delay = s.delay := rfl
@[simp] theorem State.enableDelivery_timer (s : State) : (s.enableDelivery).timer = s.timer := rfl
@[simp] theorem State.enableDelivery_stepNo (s : State) : (s.enableDelivery).stepNo = s.stepNo := rfl
@[simp] theorem State.enableDelivery_msg (s : State) : (s.enableDelivery).msg = s.msg := rfl
@[simp] theorem State.enableDelivery_midx (s : State) : (s.enableDelivery).midx = s.midx := rfl
@[simp] theorem State.enableDelivery_seq (s : State) : (s.enableDelivery).seq = s.seq := rfl
@[simp] theorem State.enableDelivery_armed (s : State) : (s.enableDelivery).armed = s.armed := rfl
@[simp] theorem State.enableDelivery_done (s : State) : (s.enableDelivery).done = false := rfl
@[simp] theorem State.enableDelivery_txBusy (s : State) : (s.enableDelivery).txBusy = s.txBusy := rfl
@[simp] theorem State.enableDelivery_ieG (s : State) : (s.enableDelivery).ieG = true := rfl
@[simp] theorem State.enableDelivery_ieP (s : State) : (s.enableDelivery).ieP = true := rfl
@[simp] theorem State.enableDelivery_ieAdc (s : State) : (s.enableDelivery).ieAdc = true := rfl
@[simp] theorem State.enableDelivery_trace (s : State) : (s.enableDelivery).trace = s.trace := rfl
@[simp] theorem State.enableDelivery_turns (s : State) : (s.enableDelivery).turns = s.turns := rfl
@[simp] theorem State.enableDelivery_clock (s : State) : (s.enableDelivery).clock = s.clock := rfl
@[simp] theorem State.enableDelivery_zeroTime (s : State) : (s.enableDelivery).zeroTime = s.zeroTime := rfl

/-! ## takeNotification -/

@[simp] theorem State.takeNotification_raw (s : State) : (s.takeNotification).raw = s.raw := rfl
@[simp] theorem State.takeNotification_scaled (s : State) : (s.takeNotification).scaled = s.scaled := rfl
@[simp] theorem State.takeNotification_band (s : State) : (s.takeNotification).band = s.band := rfl
@[simp] theorem State.takeNotification_led (s : State) : (s.takeNotification).led = s.led := rfl
@[simp] theorem State.takeNotification_motor (s : State) : (s.takeNotification).motor = s.motor := rfl
@[simp] theorem State.takeNotification_delay (s : State) : (s.takeNotification).delay = s.delay := rfl
@[simp] theorem State.takeNotification_timer (s : State) : (s.takeNotification).timer = s.timer := rfl
@[simp] theorem State.takeNotification_stepNo (s : State) : (s.takeNotification).stepNo = s.stepNo := rfl
@[simp] theorem State.takeNotification_msg (s : State) : (s.takeNotification).msg = s.msg := rfl
@[simp] theorem State.takeNotification_midx (s : State) : (s.takeNotification).midx = s.midx := rfl
@[simp] theorem State.takeNotification_seq (s : State) : (s.takeNotification).seq = Seq.capture := rfl
@[simp] theorem State.takeNotification_armed (s : State) : (s.takeNotification).armed = s.armed := rfl
@[simp] theorem State.takeNotification_done (s : State) : (s.takeNotification).done = s.done := rfl
@[simp] theorem State.takeNotification_txBusy (s : State) : (s.takeNotification).txBusy = s.txBusy := rfl
@[simp] theorem State.takeNotification_ieG (s : State) : (s.takeNotification).ieG = s.ieG := rfl
@[simp] theorem State.takeNotification_ieP (s : State) : (s.takeNotification).ieP = s.ieP := rfl
@[simp] theorem State.takeNotification_ieAdc (s : State) : (s.takeNotification).ieAdc = s.ieAdc := rfl
@[simp] theorem State.takeNotification_trace (s : State) : (s.takeNotification).trace = s.trace := rfl
@[simp] theorem State.takeNotification_turns (s : State) : (s.takeNotification).turns = s.turns := rfl
@[simp] theorem State.takeNotification_clock (s : State) : (s.takeNotification).clock = s.clock := rfl
@[simp] theorem State.takeNotification_zeroTime (s : State) : (s.takeNotification).zeroTime = s.zeroTime := rfl

/-! ## returnFromHandler -/

@[simp] theorem State.returnFromHandler_raw (s : State) : (s.returnFromHandler).raw = s.raw := rfl
@[simp] theorem State.returnFromHandler_scaled (s : State) : (s.returnFromHandler).scaled = s.scaled := rfl
@[simp] theorem State.returnFromHandler_band (s : State) : (s.returnFromHandler).band = s.band := rfl
@[simp] theorem State.returnFromHandler_led (s : State) : (s.returnFromHandler).led = s.led := rfl
@[simp] theorem State.returnFromHandler_motor (s : State) : (s.returnFromHandler).motor = s.motor := rfl
@[simp] theorem State.returnFromHandler_delay (s : State) : (s.returnFromHandler).delay = s.delay := rfl
@[simp] theorem State.returnFromHandler_timer (s : State) : (s.returnFromHandler).timer = s.timer := rfl
@[simp] theorem State.returnFromHandler_stepNo (s : State) : (s.returnFromHandler).stepNo = s.stepNo := rfl
@[simp] theorem State.returnFromHandler_msg (s : State) : (s.returnFromHandler).msg = s.msg := rfl
@[simp] theorem State.returnFromHandler_midx (s : State) : (s.returnFromHandler).midx = s.midx := rfl
@[simp] theorem State.returnFromHandler_seq (s : State) : (s.returnFromHandler).seq = Seq.idle := rfl
@[simp] theorem State.returnFromHandler_armed (s : State) : (s.returnFromHandler).armed = true := rfl
@[simp] theorem State.returnFromHandler_done (s : State) : (s.returnFromHandler).done = false := rfl
@[simp] theorem State.returnFromHandler_txBusy (s : State) : (s.returnFromHandler).txBusy = s.txBusy := rfl
@[simp] theorem State.returnFromHandler_ieG (s : State) : (s.returnFromHandler).ieG = s.ieG := rfl
@[simp] theorem State.returnFromHandler_ieP (s : State) : (s.returnFromHandler).ieP = s.ieP := rfl
@[simp] theorem State.returnFromHandler_ieAdc (s : State) : (s.returnFromHandler).ieAdc = s.ieAdc := rfl
@[simp] theorem State.returnFromHandler_trace (s : State) : (s.returnFromHandler).trace = .adcStart :: s.trace := rfl
@[simp] theorem State.returnFromHandler_turns (s : State) : (s.returnFromHandler).turns = s.turns := rfl
@[simp] theorem State.returnFromHandler_clock (s : State) : (s.returnFromHandler).clock = s.clock := rfl
@[simp] theorem State.returnFromHandler_zeroTime (s : State) : (s.returnFromHandler).zeroTime = s.zeroTime := rfl

/-! ## selectBand -/

@[simp] theorem State.selectBand_raw (s : State) (k : BandIndex) : (s.selectBand k).raw = s.raw := rfl
@[simp] theorem State.selectBand_scaled (s : State) (k : BandIndex) : (s.selectBand k).scaled = s.scaled := rfl
@[simp] theorem State.selectBand_band (s : State) (k : BandIndex) : (s.selectBand k).band = k := rfl
@[simp] theorem State.selectBand_led (s : State) (k : BandIndex) : (s.selectBand k).led = (bandRom k).ledpat := rfl
@[simp] theorem State.selectBand_motor (s : State) (k : BandIndex) : (s.selectBand k).motor = s.motor := rfl
@[simp] theorem State.selectBand_delay (s : State) (k : BandIndex) : (s.selectBand k).delay = (bandRom k).delay := rfl
@[simp] theorem State.selectBand_timer (s : State) (k : BandIndex) : (s.selectBand k).timer = s.timer := rfl
@[simp] theorem State.selectBand_stepNo (s : State) (k : BandIndex) : (s.selectBand k).stepNo = s.stepNo := rfl
@[simp] theorem State.selectBand_msg (s : State) (k : BandIndex) : (s.selectBand k).msg = (bandRom k).msg := rfl
@[simp] theorem State.selectBand_midx (s : State) (k : BandIndex) : (s.selectBand k).midx = 0 := rfl
@[simp] theorem State.selectBand_seq (s : State) (k : BandIndex) : (s.selectBand k).seq = if (bandRom k).msg = Msg.none then Seq.pinit else Seq.emit := rfl
@[simp] theorem State.selectBand_armed (s : State) (k : BandIndex) : (s.selectBand k).armed = s.armed := rfl
@[simp] theorem State.selectBand_done (s : State) (k : BandIndex) : (s.selectBand k).done = s.done := rfl
@[simp] theorem State.selectBand_txBusy (s : State) (k : BandIndex) : (s.selectBand k).txBusy = s.txBusy := rfl
@[simp] theorem State.selectBand_ieG (s : State) (k : BandIndex) : (s.selectBand k).ieG = s.ieG := rfl
@[simp] theorem State.selectBand_ieP (s : State) (k : BandIndex) : (s.selectBand k).ieP = s.ieP := rfl
@[simp] theorem State.selectBand_ieAdc (s : State) (k : BandIndex) : (s.selectBand k).ieAdc = s.ieAdc := rfl
@[simp] theorem State.selectBand_trace (s : State) (k : BandIndex) : (s.selectBand k).trace = .led (bandRom k).ledpat :: s.trace := rfl
@[simp] theorem State.selectBand_turns (s : State) (k : BandIndex) : (s.selectBand k).turns = s.turns := rfl
@[simp] theorem State.selectBand_clock (s : State) (k : BandIndex) : (s.selectBand k).clock = s.clock := rfl
@[simp] theorem State.selectBand_zeroTime (s : State) (k : BandIndex) : (s.selectBand k).zeroTime = s.zeroTime := rfl

/-! ## resetBlock -/

@[simp] theorem State.resetBlock_raw (s : State) : (s.resetBlock).raw = State.reset.raw := rfl
@[simp] theorem State.resetBlock_scaled (s : State) : (s.resetBlock).scaled = State.reset.scaled := rfl
@[simp] theorem State.resetBlock_band (s : State) : (s.resetBlock).band = State.reset.band := rfl
@[simp] theorem State.resetBlock_led (s : State) : (s.resetBlock).led = State.reset.led := rfl
@[simp] theorem State.resetBlock_motor (s : State) : (s.resetBlock).motor = State.reset.motor := rfl
@[simp] theorem State.resetBlock_delay (s : State) : (s.resetBlock).delay = State.reset.delay := rfl
@[simp] theorem State.resetBlock_timer (s : State) : (s.resetBlock).timer = State.reset.timer := rfl
@[simp] theorem State.resetBlock_stepNo (s : State) : (s.resetBlock).stepNo = State.reset.stepNo := rfl
@[simp] theorem State.resetBlock_msg (s : State) : (s.resetBlock).msg = State.reset.msg := rfl
@[simp] theorem State.resetBlock_midx (s : State) : (s.resetBlock).midx = State.reset.midx := rfl
@[simp] theorem State.resetBlock_seq (s : State) : (s.resetBlock).seq = State.reset.seq := rfl
@[simp] theorem State.resetBlock_armed (s : State) : (s.resetBlock).armed = State.reset.armed := rfl
@[simp] theorem State.resetBlock_done (s : State) : (s.resetBlock).done = State.reset.done := rfl
@[simp] theorem State.resetBlock_txBusy (s : State) : (s.resetBlock).txBusy = State.reset.txBusy := rfl
@[simp] theorem State.resetBlock_ieG (s : State) : (s.resetBlock).ieG = State.reset.ieG := rfl
@[simp] theorem State.resetBlock_ieP (s : State) : (s.resetBlock).ieP = State.reset.ieP := rfl
@[simp] theorem State.resetBlock_ieAdc (s : State) : (s.resetBlock).ieAdc = State.reset.ieAdc := rfl
@[simp] theorem State.resetBlock_trace (s : State) : (s.resetBlock).trace = s.trace := rfl
@[simp] theorem State.resetBlock_turns (s : State) : (s.resetBlock).turns = s.turns := rfl
@[simp] theorem State.resetBlock_clock (s : State) : (s.resetBlock).clock = s.clock := rfl
@[simp] theorem State.resetBlock_zeroTime (s : State) : (s.resetBlock).zeroTime = s.zeroTime := rfl

/-! ## useTurn -/

@[simp] theorem State.useTurn_raw (s : State) : s.useTurn.raw = s.raw := by
  unfold State.useTurn; cases s.turns <;> rfl
@[simp] theorem State.useTurn_scaled (s : State) : s.useTurn.scaled = s.scaled := by
  unfold State.useTurn; cases s.turns <;> rfl
@[simp] theorem State.useTurn_band (s : State) : s.useTurn.band = s.band := by
  unfold State.useTurn; cases s.turns <;> rfl
@[simp] theorem State.useTurn_led (s : State) : s.useTurn.led = s.led := by
  unfold State.useTurn; cases s.turns <;> rfl
@[simp] theorem State.useTurn_motor (s : State) : s.useTurn.motor = s.motor := by
  unfold State.useTurn; cases s.turns <;> rfl
@[simp] theorem State.useTurn_delay (s : State) : s.useTurn.delay = s.delay := by
  unfold State.useTurn; cases s.turns <;> rfl
@[simp] theorem State.useTurn_timer (s : State) : s.useTurn.timer = s.timer := by
  unfold State.useTurn; cases s.turns <;> rfl
@[simp] theorem State.useTurn_stepNo (s : State) : s.useTurn.stepNo = s.stepNo := by
  unfold State.useTurn; cases s.turns <;> rfl
@[simp] theorem State.useTurn_msg (s : State) : s.useTurn.msg = s.msg := by
  unfold State.useTurn; cases s.turns <;> rfl
@[simp] theorem State.useTurn_midx (s : State) : s.useTurn.midx = s.midx := by
  unfold State.useTurn; cases s.turns <;> rfl
@[simp] theorem State.useTurn_seq (s : State) : s.useTurn.seq = s.seq := by
  unfold State.useTurn; cases s.turns <;> rfl
@[simp] theorem State.useTurn_armed (s : State) : s.useTurn.armed = s.armed := by
  unfold State.useTurn; cases s.turns <;> rfl
@[simp] theorem State.useTurn_done (s : State) : s.useTurn.done = s.done := by
  unfold State.useTurn; cases s.turns <;> rfl
@[simp] theorem State.useTurn_txBusy (s : State) : s.useTurn.txBusy = s.txBusy := by
  unfold State.useTurn; cases s.turns <;> rfl
@[simp] theorem State.useTurn_ieG (s : State) : s.useTurn.ieG = s.ieG := by
  unfold State.useTurn; cases s.turns <;> rfl
@[simp] theorem State.useTurn_ieP (s : State) : s.useTurn.ieP = s.ieP := by
  unfold State.useTurn; cases s.turns <;> rfl
@[simp] theorem State.useTurn_ieAdc (s : State) : s.useTurn.ieAdc = s.ieAdc := by
  unfold State.useTurn; cases s.turns <;> rfl
@[simp] theorem State.useTurn_trace (s : State) : s.useTurn.trace = s.trace := by
  unfold State.useTurn; cases s.turns <;> rfl
@[simp] theorem State.useTurn_zeroTime (s : State) : s.useTurn.zeroTime = s.zeroTime := by
  unfold State.useTurn; cases s.turns <;> rfl

theorem State.nextTurn_cons (s : State) (a : Agent) (rest : List Agent) (h : s.turns = a :: rest) : s.nextTurn = a := by
  simp [State.nextTurn, h]

theorem State.useTurn_cons (s : State) (a : Agent) (rest : List Agent) (h : s.turns = a :: rest) :
    s.useTurn = { s with turns := rest } := by
  simp [State.useTurn, h]

theorem State.nextTurn_nil (s : State) (h : s.turns = []) : s.nextTurn = Config.freeTurn s.clock := by
  simp [State.nextTurn, h]

theorem State.useTurn_nil (s : State) (h : s.turns = []) : s.useTurn = { s with clock := s.clock + 1 } := by
  simp [State.useTurn, h]

end Sys2Proof.Machine
end

