-- ==== Sys2Proof/Laws/Ops.lean ====
section
/-! SUPPORT. One lemma for each shared operation that says everything it can do, and the cases of a fetch and of a
step. -/

namespace Sys2Proof.Machine

@[simp] theorem State.inState_iff (s : State) (c : SeqCode) : s.inState c = true ↔ s.seq = c := by
  simp [State.inState]

@[simp] theorem State.inState_false_iff (s : State) (c : SeqCode) : s.inState c = false ↔ s.seq ≠ c := by
  simp [State.inState]

theorem State.deliverable_iff (s : State) :
    s.deliverable = true ↔ s.done = true ∧ s.ieG = true ∧ s.ieP = true ∧ s.ieAdc = true := by
  simp [State.deliverable, and_assoc]

theorem State.canEnter_iff (s : State) : s.canEnter = true ↔ s.seq = Seq.idle ∧ s.deliverable = true := by
  simp [State.canEnter]

theorem State.canSend_iff (s : State) :
    s.canSend = true ↔ s.seq = Seq.emit ∧ s.txBusy = false ∧ s.midx < msgLen := by
  rw [State.canSend, Bool.and_eq_true, Bool.and_eq_true, decide_eq_true_iff, Bool.not_eq_true', State.inState_iff,
    and_assoc]

theorem State.canTxDone_iff (s : State) : s.canTxDone = true ↔ s.seq = Seq.emit ∧ s.txBusy = true := by
  simp [State.canTxDone]

theorem State.canTick_iff (s : State) : s.canTick = true ↔ s.seq = Seq.hold ∧ s.timer ≠ 0 := by
  rw [State.canTick, Bool.and_eq_true, decide_eq_true_iff, State.inState_iff]

theorem State.canExpire_iff (s : State) : s.canExpire = true ↔ s.seq = Seq.hold ∧ s.timer = 0 := by
  rw [State.canExpire, Bool.and_eq_true, decide_eq_true_iff, State.inState_iff]

/-- An operation under a guard answers a next state exactly where the guard holds, and then its target. -/
theorem fire_next_iff (g : Bool) (t u : State) : fire g t = .next u ↔ g = true ∧ u = t := by
  unfold fire
  cases g
  · exact ⟨nofun, fun h => nomatch h.1⟩
  · exact ⟨fun h => ⟨rfl, (Host.Outcome.next.inj h).symm⟩, fun h => congrArg Host.Outcome.next h.2.symm⟩

@[simp] theorem fire_true (t : State) : fire true t = .next t := rfl

@[simp] theorem fire_false (t : State) : fire false t = .refused .notEnabled := rfl

/-- A case of `SELECT` answers a next state exactly in `S_SELECT` with its own band's bits in `SCALED`. -/
theorem bandCase_next_iff (k : BandIndex) (s t : State) :
    bandCase k s = .next t ↔ s.seq = Seq.select ∧ bandBits s.scaled = k ∧ t = s.selectBand k := by
  simp only [bandCase, State.inState_iff]
  by_cases h : s.seq = Seq.select
  · by_cases h' : bandBits s.scaled = k
    · rw [if_pos h, if_pos h']
      exact ⟨fun e => ⟨h, h', (Host.Outcome.next.inj e).symm⟩, fun e => congrArg _ e.2.2.symm⟩
    · rw [if_pos h, if_neg h']
      exact ⟨nofun, fun e => absurd e.2.1 h'⟩
  · rw [if_neg h]
    exact ⟨nofun, fun e => absurd e.1 h⟩

/-- In `S_SELECT` the case of the selected band is what `SELECT` writes. -/
theorem bandCase_selected (s : State) (h : s.seq = Seq.select) :
    bandCase (bandBits s.scaled) s = .next (s.selectBand (bandBits s.scaled)) := by
  simp [bandCase_next_iff, h]

/-- Outside `S_SELECT` no case of `SELECT` is enabled. -/
theorem bandCase_outside (k : BandIndex) (s : State) (h : s.seq ≠ Seq.select) :
    bandCase k s = .refused .notEnabled := by
  unfold bandCase
  rw [if_neg (by simpa using h)]

/-- A case of `SELECT` never faults. -/
theorem bandCase_ne_fault (k : BandIndex) (s : State) (r : Fault) : bandCase k s ≠ .fault r := nomatch r

/-- The successor of a phase: the wrap, or one line down from one of the other three phases. -/
theorem nextPhase_eq_some_iff (m v : Byte) :
    nextPhase m = some v ↔
      m = 0x10 ∧ v = 0x80 ∨ (m = 0x80 ∨ m = 0x40 ∨ m = 0x20) ∧ v = m >>> 1 := by
  simp only [nextPhase, lineLow, lineHigh]
  by_cases h : m = 0x10
  · subst h
    constructor
    · intro e; exact .inl ⟨rfl, (Option.some.inj e).symm⟩
    · rintro (e | ⟨e, -⟩)
      · rw [e.2]; rfl
      · exact absurd e (by decide)
  · rw [if_neg h]
    by_cases h' : m = 0x80 ∨ m = 0x40 ∨ m = 0x20
    · rw [if_pos h']
      exact ⟨fun e => .inr ⟨h', (Option.some.inj e).symm⟩, fun e => e.elim (fun e => absurd e.1 h) (fun e => congrArg _ e.2.symm)⟩
    · rw [if_neg h']
      exact ⟨nofun, fun e => e.elim (fun e => absurd e.1 h) (fun e => absurd e.1 h')⟩

/-- A byte of a message is there exactly for the two selectors that have a string and the indices below 19. -/
theorem msgByte_isSome_iff (m : MsgCode) (i : BitVec 5) :
    (msgByte m i).isSome = true ↔ (m = Msg.min ∨ m = Msg.max) ∧ i < 19 := by
  revert m i; decide

/-- A turn that is used up changes nothing but `turns` or `clock`. -/
theorem State.useTurn_eq (s : State) : s.useTurn = { s with turns := s.useTurn.turns, clock := s.useTurn.clock } := by
  unfold State.useTurn; cases s.turns <;> rfl

/-- The block's enabled operation: the row of its code, with the guard true. -/
theorem State.blockOp_eq_some_iff (s : State) (i : Instr) :
    s.blockOp = some i ↔ decode (.formatQ .block s.seq) = .ok i ∧ enabled i s = true := by
  unfold State.blockOp
  cases h : decode (.formatQ .block s.seq) with
  | error e => simp
  | ok j =>
    by_cases hj : enabled j s = true
    · simp only [hj, if_true, Option.some.injEq, Except.ok.injEq]
      constructor
      · rintro rfl; exact ⟨rfl, hj⟩
      · exact fun h => h.1
    · simp only [hj, Except.ok.injEq]
      constructor
      · simp
      · rintro ⟨rfl, h⟩; exact absurd h hj

/-- Everything a fetch can answer. The operation fetched is the reset source's; or the block's enabled one, before or
on its turn; or a completion with a conversion in progress; or one of the two events that are always offered. -/
theorem State.fetch_run_cases (s u : State) (i : Instr) (h : s.fetch = .run i u) :
    i = .reset ∧ s.nextTurn = .resetSource ∧ u = s.useTurn ∨
    (s.nextTurn ≠ .resetSource ∧ s.seq ≤ Seq.ack ∧ s.msg ≠ 3) ∧
      (s.blockOp = some i ∧ (u = s ∨ u = s.useTurn) ∨
       (∃ r, i = .complete r ∧ s.nextTurn = .adc r ∧ s.armed = true ∧ u = s.useTurn) ∨
       i = .txdone ∧ s.nextTurn = .transmitter ∧ u = s.useTurn ∨
       i = .tick ∧ s.nextTurn = .timeBase ∧ u = s.useTurn) := by
  unfold State.fetch at h
  split at h <;> rename_i hr
  · left; cases h; exact ⟨rfl, hr, rfl⟩
  · right
    split at h <;> rename_i hs
    · cases h
    · split at h <;> rename_i hm
      · cases h
      · refine ⟨⟨hr, by simpa using hs, hm⟩, ?_⟩
        unfold State.fetchOrdered at h
        split at h
        · rename_i j _ hb; cases h; exact .inl ⟨hb, .inl rfl⟩
        · unfold State.fetchTurn at h
          split at h
          · split at h
            · rename_i hb; cases h; exact .inl ⟨hb, .inr rfl⟩
            · cases h
          · split at h
            · rename_i r hn ha; cases h; exact .inr (.inl ⟨_, rfl, hn, ha, rfl⟩)
            · cases h
          · rename_i hn; cases h; exact .inr (.inr (.inl ⟨rfl, hn, rfl⟩))
          · rename_i hn; cases h; exact .inr (.inr (.inr ⟨rfl, hn, rfl⟩))
          · rename_i hn; exact absurd hn hr

/-- A turn that passes is used up, and nothing else. -/
theorem State.fetch_pass_cases (s u : State) (h : s.fetch = .pass u) : u = s.useTurn := by
  unfold State.fetch at h
  split at h
  · cases h
  · split at h
    · cases h
    · split at h
      · cases h
      · unfold State.fetchOrdered at h
        split at h
        · cases h
        · unfold State.fetchTurn at h
          split at h
          · split at h <;> cases h; rfl
          · split at h <;> cases h; rfl
          all_goals cases h

/-- Everything a step that answers a next state can have done. -/
theorem step_next_cases (s t : State) (h : step s = .next t) :
    (∃ i u, s.fetch = .run i u ∧ exec i u = .next t) ∨ t = s.useTurn := by
  unfold step at h
  split at h
  · rename_i i u hf; exact .inl ⟨i, u, hf, h⟩
  · rename_i u hf; cases h; exact .inr (s.fetch_pass_cases _ hf)
  · cases h

end Sys2Proof.Machine
end

