-- ==== Sys2Proof/Laws/Exec.lean ====
section
/-! SUPPORT. For each operation, when it answers a next state and which: the inversion lemmas that later proofs cite
instead of unfolding a meaning. -/

namespace Sys2Proof.Machine

theorem execReset_next_iff (s t : State) : exec .reset s = .next t ↔ t = s.resetBlock :=
  ⟨fun h => (Host.Outcome.next.inj h).symm, fun h => congrArg _ h.symm⟩

theorem execSetup_next_iff (s t : State) :
    exec .setup s = .next t ↔ s.seq = Seq.boot ∧ t = (s.enableDelivery.arm).setSeq Seq.idle :=
  (fire_next_iff _ _ _).trans (and_congr_left' (s.inState_iff _))

theorem execEnter_next_iff (s t : State) :
    exec .enter s = .next t ↔ (s.seq = Seq.idle ∧ s.deliverable = true) ∧ t = s.takeNotification :=
  (fire_next_iff _ _ _).trans (and_congr_left' s.canEnter_iff)

theorem execComplete_next_iff (r : Sample) (s t : State) :
    exec (.complete r) s = .next t ↔ s.armed = true ∧ t = { s with raw := r, armed := false, done := true } := by
  show execComplete r s = .next t ↔ _
  unfold execComplete
  by_cases h : s.armed = true
  · rw [if_pos h]
    exact ⟨fun e => ⟨h, (Host.Outcome.next.inj e).symm⟩, fun e => congrArg _ e.2.symm⟩
  · rw [if_neg h]
    exact ⟨nofun, fun e => absurd e.1 h⟩

theorem execCapture_next_iff (s t : State) :
    exec .capture s = .next t ↔
      s.seq = Seq.capture ∧ t = { s with scaled := reduceSample s.raw }.setSeq Seq.select :=
  (fire_next_iff _ _ _).trans (and_congr_left' (s.inState_iff _))

theorem execSelect_next_iff (s t : State) :
    exec .select s = .next t ↔ s.seq = Seq.select ∧ t = s.selectBand (bandBits s.scaled) :=
  (fire_next_iff _ _ _).trans (and_congr_left' (s.inState_iff _))

/-- The band operation of an index is the case of that index, whatever its operands. -/
theorem exec_bandInstr (k : BandIndex) (sub : BitVec 5) (frac : BitVec 2) (s : State) :
    exec (bandInstr k sub frac) s = bandCase k s := by
  have h : k = 0 ∨ k = 1 ∨ k = 2 ∨ k = 3 ∨ k = 4 ∨ k = 5 ∨ k = 6 ∨ k = 7 := by revert k; decide
  rcases h with rfl | rfl | rfl | rfl | rfl | rfl | rfl | rfl <;> rfl

theorem execTxsend_next_iff (s t : State) :
    exec .txsend s = .next t ↔
      (s.seq = Seq.emit ∧ s.txBusy = false ∧ s.midx < msgLen) ∧
      ∃ b, msgByte s.msg s.midx = some b ∧ t = { s with txBusy := true }.emit (.tx b) := by
  rw [← s.canSend_iff]
  show execTxsend s = .next t ↔ _
  unfold execTxsend
  by_cases h : enabled .txsend s = true
  · rw [if_pos h]
    cases hb : msgByte s.msg s.midx with
    | none => exact ⟨nofun, fun e => nomatch e.2.choose_spec.1⟩
    | some b =>
      refine ⟨fun e => ⟨h, b, rfl, (Host.Outcome.next.inj e).symm⟩, ?_⟩
      rintro ⟨-, c, hc, rfl⟩
      cases hc; rfl
  · rw [if_neg h]
    exact ⟨nofun, fun e => absurd e.1 h⟩

theorem execTxdone_next_iff (s t : State) :
    exec .txdone s = .next t ↔
      (s.seq = Seq.emit ∧ s.txBusy = true) ∧
        t = { s with
          txBusy := false, midx := s.midx + 1, seq := if s.midx + 1 = msgLen then Seq.pinit else s.seq } ∨
      ¬(s.seq = Seq.emit ∧ s.txBusy = true) ∧ t = s := by
  rw [← s.canTxDone_iff]
  show execTxdone s = .next t ↔ _
  unfold execTxdone
  by_cases h : enabled .txdone s = true
  · rw [if_pos h]
    exact ⟨fun e => .inl ⟨h, (Host.Outcome.next.inj e).symm⟩,
      fun e => e.elim (fun e => congrArg _ e.2.symm) (fun e => absurd h e.1)⟩
  · rw [if_neg h]
    exact ⟨fun e => .inr ⟨h, (Host.Outcome.next.inj e).symm⟩,
      fun e => e.elim (fun e => absurd e.1 h) (fun e => congrArg _ e.2.symm)⟩

theorem execPinit_next_iff (s t : State) :
    exec .pinit s = .next t ↔
      s.seq = Seq.pinit ∧ t = ({ s.writePhase lineHigh with stepNo := 0 }.loadTimer).setSeq Seq.hold :=
  (fire_next_iff _ _ _).trans (and_congr_left' (s.inState_iff _))

theorem execPadv_next_iff (s t : State) :
    exec .padv s = .next t ↔
      s.seq = Seq.padv ∧
      ∃ v, nextPhase s.motor = some v ∧
        t = ({ s.writePhase v with stepNo := s.stepNo + 1 }.loadTimer).setSeq Seq.hold := by
  rw [← s.inState_iff]
  show execPadv s = .next t ↔ _
  unfold execPadv
  by_cases h : enabled .padv s = true
  · rw [if_pos h]
    cases hv : nextPhase s.motor with
    | none => exact ⟨nofun, fun e => nomatch e.2.choose_spec.1⟩
    | some v =>
      refine ⟨fun e => ⟨h, v, rfl, (Host.Outcome.next.inj e).symm⟩, ?_⟩
      rintro ⟨-, c, hc, rfl⟩
      cases hc; rfl
  · rw [if_neg h]
    exact ⟨nofun, fun e => absurd e.1 h⟩

theorem execExpire_next_iff (s t : State) :
    exec .expire s = .next t ↔
      (s.seq = Seq.hold ∧ s.timer = 0) ∧ t = s.setSeq (if s.stepNo < nAdvances then Seq.padv else Seq.ack) :=
  (fire_next_iff _ _ _).trans (and_congr_left' s.canExpire_iff)

theorem execTick_next_iff (s t : State) :
    exec .tick s = .next t ↔
      (s.seq = Seq.hold ∧ s.timer ≠ 0) ∧ t = { s with timer := s.timer - 1 }.emit .tickMs ∨
      ¬(s.seq = Seq.hold ∧ s.timer ≠ 0) ∧ t = s.emit .tickMs := by
  rw [← s.canTick_iff]
  show execTick s = .next t ↔ _
  unfold execTick
  by_cases h : enabled .tick s = true
  · rw [if_pos h]
    exact ⟨fun e => .inl ⟨h, (Host.Outcome.next.inj e).symm⟩,
      fun e => e.elim (fun e => congrArg _ e.2.symm) (fun e => absurd h e.1)⟩
  · rw [if_neg h]
    exact ⟨fun e => .inr ⟨h, (Host.Outcome.next.inj e).symm⟩,
      fun e => e.elim (fun e => absurd e.1 h) (fun e => congrArg _ e.2.symm)⟩

theorem execAck_next_iff (s t : State) :
    exec .ack s = .next t ↔ s.seq = Seq.ack ∧ t = s.returnFromHandler :=
  (fire_next_iff _ _ _).trans (and_congr_left' (s.inState_iff _))

/-- Everything `exec` can do, once: a relation between states that holds of each operation's own effect holds whenever
`exec` answers a next state. -/
theorem exec_next_cases (P : Instr → State → State → Prop)
    (hreset : ∀ s : State, P .reset s s.resetBlock)
    (hsetup : ∀ s : State, s.seq = Seq.boot → P .setup s ((s.enableDelivery.arm).setSeq Seq.idle))
    (henter : ∀ s : State, s.seq = Seq.idle → s.deliverable = true → P .enter s s.takeNotification)
    (hcomplete : ∀ (s : State) (r : Sample), s.armed = true → P (.complete r) s { s with raw := r, armed := false, done := true })
    (hcapture : ∀ s : State, s.seq = Seq.capture →
      P .capture s ({ s with scaled := reduceSample s.raw }.setSeq Seq.select))
    (hselect : ∀ s : State, s.seq = Seq.select → P .select s (s.selectBand (bandBits s.scaled)))
    (hband : ∀ (s : State) (k : BandIndex) (sub : BitVec 5) (frac : BitVec 2), s.seq = Seq.select → bandBits s.scaled = k →
      P (bandInstr k sub frac) s (s.selectBand k))
    (htxsend : ∀ (s : State) (b : Byte), s.seq = Seq.emit → s.txBusy = false → s.midx < msgLen → msgByte s.msg s.midx = some b →
      P .txsend s ({ s with txBusy := true }.emit (.tx b)))
    (htxdone : ∀ s : State, s.seq = Seq.emit → s.txBusy = true →
      P .txdone s { s with
        txBusy := false, midx := s.midx + 1, seq := if s.midx + 1 = msgLen then Seq.pinit else s.seq })
    (htxidle : ∀ s : State, ¬(s.seq = Seq.emit ∧ s.txBusy = true) → P .txdone s s)
    (hpinit : ∀ s : State, s.seq = Seq.pinit →
      P .pinit s (({ s.writePhase lineHigh with stepNo := 0 }.loadTimer).setSeq Seq.hold))
    (hpadv : ∀ (s : State) (v : Byte), s.seq = Seq.padv → nextPhase s.motor = some v →
      P .padv s (({ s.writePhase v with stepNo := s.stepNo + 1 }.loadTimer).setSeq Seq.hold))
    (hexpire : ∀ s : State, s.seq = Seq.hold → s.timer = 0 →
      P .expire s (s.setSeq (if s.stepNo < nAdvances then Seq.padv else Seq.ack)))
    (htick : ∀ s : State, s.seq = Seq.hold → s.timer ≠ 0 → P .tick s ({ s with timer := s.timer - 1 }.emit .tickMs))
    (htickidle : ∀ s : State, ¬(s.seq = Seq.hold ∧ s.timer ≠ 0) → P .tick s (s.emit .tickMs))
    (hack : ∀ s : State, s.seq = Seq.ack → P .ack s s.returnFromHandler)
    (i : Instr) (s t : State) (h : exec i s = .next t) : P i s t := by
  have hb : ∀ k sub frac, exec (bandInstr k sub frac) s = .next t → P (bandInstr k sub frac) s t := by
    intro k sub frac h
    rw [exec_bandInstr, bandCase_next_iff] at h
    obtain ⟨h1, h2, rfl⟩ := h
    exact hband s k sub frac h1 h2
  cases i with
  | band0 a b => exact hb 0 a b h
  | band1 a b => exact hb 1 a b h
  | band2 a b => exact hb 2 a b h
  | band3 a b => exact hb 3 a b h
  | band4 a b => exact hb 4 a b h
  | band5 a b => exact hb 5 a b h
  | band6 a b => exact hb 6 a b h
  | band7 a b => exact hb 7 a b h
  | reset => rw [execReset_next_iff] at h; subst h; exact hreset s
  | setup => rw [execSetup_next_iff] at h; obtain ⟨a, rfl⟩ := h; exact hsetup s a
  | enter => rw [execEnter_next_iff] at h; obtain ⟨⟨a, b⟩, rfl⟩ := h; exact henter s a b
  | complete r => rw [execComplete_next_iff] at h; obtain ⟨a, rfl⟩ := h; exact hcomplete s r a
  | capture => rw [execCapture_next_iff] at h; obtain ⟨a, rfl⟩ := h; exact hcapture s a
  | select => rw [execSelect_next_iff] at h; obtain ⟨a, rfl⟩ := h; exact hselect s a
  | txsend => rw [execTxsend_next_iff] at h; obtain ⟨⟨a, b, c⟩, x, d, rfl⟩ := h; exact htxsend s x a b c d
  | txdone =>
    rw [execTxdone_next_iff] at h
    rcases h with ⟨⟨a, b⟩, rfl⟩ | ⟨a, rfl⟩
    · exact htxdone s a b
    · exact htxidle _ a
  | pinit => rw [execPinit_next_iff] at h; obtain ⟨a, rfl⟩ := h; exact hpinit s a
  | padv => rw [execPadv_next_iff] at h; obtain ⟨a, v, b, rfl⟩ := h; exact hpadv s v a b
  | expire => rw [execExpire_next_iff] at h; obtain ⟨⟨a, b⟩, rfl⟩ := h; exact hexpire s a b
  | tick =>
    rw [execTick_next_iff] at h
    rcases h with ⟨⟨a, b⟩, rfl⟩ | ⟨a, rfl⟩
    · exact htick s a b
    · exact htickidle s a
  | ack => rw [execAck_next_iff] at h; obtain ⟨a, rfl⟩ := h; exact hack s a

end Sys2Proof.Machine
end

