-- ==== Sys2Proof/Laws/PerInstr.lean ====
section
/-! SUPPORT. One lemma per constructor of `Instr`: what is true of every operation as syntax. -/

namespace Sys2Proof.Laws

/-- The encoded form of an operation is a word of SPSEQ (rules R58, R60, R64). -/
def Encoding.Statement (i : Instr) : Prop := (encode i).wf = true

theorem Encoding.band0 (sub : BitVec 5) (frac : BitVec 2) : Encoding.Statement (.band0 sub frac) := rfl
theorem Encoding.band1 (sub : BitVec 5) (frac : BitVec 2) : Encoding.Statement (.band1 sub frac) := rfl
theorem Encoding.band2 (sub : BitVec 5) (frac : BitVec 2) : Encoding.Statement (.band2 sub frac) := rfl
theorem Encoding.band3 (sub : BitVec 5) (frac : BitVec 2) : Encoding.Statement (.band3 sub frac) := rfl
theorem Encoding.band4 (sub : BitVec 5) (frac : BitVec 2) : Encoding.Statement (.band4 sub frac) := rfl
theorem Encoding.band5 (sub : BitVec 5) (frac : BitVec 2) : Encoding.Statement (.band5 sub frac) := rfl
theorem Encoding.band6 (sub : BitVec 5) (frac : BitVec 2) : Encoding.Statement (.band6 sub frac) := rfl
theorem Encoding.band7 (sub : BitVec 5) (frac : BitVec 2) : Encoding.Statement (.band7 sub frac) := rfl
theorem Encoding.setup : Encoding.Statement .setup := rfl
theorem Encoding.enter : Encoding.Statement .enter := rfl
theorem Encoding.complete (r : Sample) : Encoding.Statement (.complete r) := rfl
theorem Encoding.capture : Encoding.Statement .capture := rfl
theorem Encoding.select : Encoding.Statement .select := rfl
theorem Encoding.txsend : Encoding.Statement .txsend := rfl
theorem Encoding.txdone : Encoding.Statement .txdone := rfl
theorem Encoding.pinit : Encoding.Statement .pinit := rfl
theorem Encoding.tick : Encoding.Statement .tick := rfl
theorem Encoding.expire : Encoding.Statement .expire := rfl
theorem Encoding.padv : Encoding.Statement .padv := rfl
theorem Encoding.ack : Encoding.Statement .ack := rfl
theorem Encoding.reset : Encoding.Statement .reset := rfl

end Sys2Proof.Laws
end

