-- ==== Sys2Proof/Laws/Run.lean ====
section
/-! SUPPORT. Runs: one step more, and one run after another. -/

namespace Sys2Proof.Machine

theorem coreRun_next (M : Host.Core) (k : Nat) (s t : M.State) (h : M.step s = .next t) :
    M.run (k + 1) s = M.run k t := by
  simp only [Host.Core.run, h]

theorem coreRun_refused (M : Host.Core) (k : Nat) (s : M.State) (r : M.Refusal) (h : M.step s = .refused r) :
    M.run (k + 1) s = .refused r := by
  simp only [Host.Core.run, h]

theorem run_zero (s : State) : core.run 0 s = .next s := rfl

/-- A run of one step more goes on from the step's next state. -/
theorem run_succ (k : Nat) (s t : State) (h : step s = .next t) : core.run (k + 1) s = core.run k t :=
  coreRun_next core k s t h

/-- A run goes on from where a first part of it ends. -/
theorem run_add (m n : Nat) (s t : State) (h : core.run m s = .next t) : core.run (m + n) s = core.run n t := by
  induction m generalizing s with
  | zero => cases h; rw [Nat.zero_add]
  | succ m ih =>
    rw [Nat.succ_add_eq_add_succ, Nat.add_succ]
    cases hs : step s with
    | next u => rw [run_succ _ _ _ hs]; rw [run_succ _ _ _ hs] at h; exact ih u h
    | fault r => exact nomatch r
    | refused r => rw [coreRun_refused core m s r hs] at h; cases h

end Sys2Proof.Machine
end

