-- ==== Sys2Proof/Tests/Slice0.lean ====
section
/-! SUPPORT. Tests: what WellFormed and the decoder refuse, the words of the opcode table written out bit by bit
(rules R56, R58, R60), one step or two of every operation with the results of the spec's test vectors V1 to V8, and
for every obligation with hypotheses a concrete state that meets them. -/

namespace Sys2Proof.Tests

open Sys2Proof.Machine

/-! ## Helpers -/

/-- A state with every register at a number (`State.reset` holds the open parameters in `LED` and `MOTOR`): waiting
in `S_IDLE` for an armed conversion, with the enables set. -/
def base : State :=
  { State.reset with
    led := 0, motor := 0x80, ieG := true, ieP := true, ieAdc := true, seq := Seq.idle, armed := true }

/-- In the handler: the notification is pending and nothing is armed. -/
def inside (c : SeqCode) : State := { base with seq := c, armed := false, done := true }

/-- What an observation shows of the next state; none where there is no next state. -/
def sees {α : Type} (f : State → α) : Result → Option α
  | .next s => some (f s)
  | _ => none

/-- Why there is no next state. -/
def why : Result → Option Refusal
  | .refused r => some r
  | _ => none

/-- What the decoder answers. -/
def reads (c : Code) : Option Instr :=
  match decode c with
  | .ok i => some i
  | .error _ => none

/-- Why the decoder refuses. -/
def rejects (c : Code) : Option DecodeError :=
  match decode c with
  | .ok _ => none
  | .error e => some e

/-! ## WellFormed: an ill-formed form for each check, and the decoder's refusal by name (rules R60, R64) -/

theorem test_wf_reserved_code : (Code.formatQ .block 9).wf = false := by decide
theorem test_wf_no_row_adc : (Code.formatQ (.adc 5) 2).wf = false := by decide
theorem test_wf_no_row_transmitter : (Code.formatQ .transmitter 1).wf = false := by decide
theorem test_wf_no_row_time_base : (Code.formatQ .timeBase 4).wf = false := by decide
theorem test_wf_no_row_reset_source : (Code.formatQ .resetSource 0).wf = false := by decide
theorem test_wf_accepts :
    (Code.formatS 0x3FF).wf = true ∧ (Code.formatQ .block 8).wf = true ∧ Code.noWord.wf = true := by decide

theorem test_decode_rejects_reserved :
    rejects (.formatQ .block 15) = some (.reservedCode 15) ∧
    rejects (.formatQ .timeBase 9) = some (.reservedCode 9) := by decide
theorem test_decode_rejects_no_row :
    rejects (.formatQ (.adc 5) 2) = some (.noRow 2) ∧
    rejects (.formatQ .transmitter 8) = some (.noRow 8) := by decide

/-! ## Decoding: words written out from rules R56, R58 (vector V4) and R60 -/

theorem test_decode_band0 : decodeTableWord 16 0b0001111111 = some (.band0 31 3) := by decide
theorem test_decode_band1 : decodeTableWord 16 0b0010000000 = some (.band1 0 0) := by decide
theorem test_decode_band2 : decodeTableWord 16 0b0101000001 = some (.band2 16 1) := by decide
theorem test_decode_band3 : decodeTableWord 16 0b0111111111 = some (.band3 31 3) := by decide
theorem test_decode_band4 : decodeTableWord 16 0b1000000000 = some (.band4 0 0) := by decide
theorem test_decode_band5 : decodeTableWord 16 0b1010111100 = some (.band5 15 0) := by decide
theorem test_decode_band6 : decodeTableWord 16 0b1101111111 = some (.band6 31 3) := by decide
theorem test_decode_band7 : decodeTableWord 16 0b1110000110 = some (.band7 1 2) := by decide
theorem test_decode_setup : decodeTableWord 8 0b0000 = some .setup := by decide
theorem test_decode_enter : decodeTableWord 8 0b0001 = some .enter := by decide
theorem test_decode_complete : reads (.formatQ (.adc 700) 0b0001) = some (.complete 700) := by decide
theorem test_decode_capture : decodeTableWord 8 0b0010 = some .capture := by decide
theorem test_decode_select : decodeTableWord 8 0b0011 = some .select := by decide
theorem test_decode_txsend : decodeTableWord 8 0b0100 = some .txsend := by decide
theorem test_decode_txdone : reads (.formatQ .transmitter 0b0100) = some .txdone := by decide
theorem test_decode_pinit : decodeTableWord 8 0b0101 = some .pinit := by decide
theorem test_decode_tick : reads (.formatQ .timeBase 0b0110) = some .tick := by decide
theorem test_decode_expire : decodeTableWord 8 0b0110 = some .expire := by decide
theorem test_decode_padv : decodeTableWord 8 0b0111 = some .padv := by decide
theorem test_decode_ack : decodeTableWord 8 0b1000 = some .ack := by decide
theorem test_decode_reset : reads .noWord = some .reset ∧ decodeTableWord 0 0 = some .reset := by decide
theorem test_decode_above_width : decodeTableWord 16 0b10000000000 = none ∧ decodeTableWord 8 0b10000 = none := by
  decide

/-! ## Operations: the results of vectors V1 to V8 -/

/-- The registers a band operation writes (vector V3). -/
def selected (s : State) : BandIndex × Byte × Byte × MsgCode × SeqCode :=
  (s.band, s.led, s.delay, s.msg, s.seq)

/-- `S_SELECT` with a count. -/
def selecting (c : Byte) : State := { inside Seq.select with scaled := c, midx := 7 }

theorem test_band0 :
    sees selected (exec (.band0 0 3) (selecting 31)) = some (0, 0x01, 30, 1, Seq.emit) := by decide
theorem test_band1 :
    sees selected (exec (.band1 0 0) (selecting 32)) = some (1, 0x03, 26, 0, Seq.pinit) := by decide
theorem test_band2 :
    sees selected (exec (.band2 0 0) (selecting 95)) = some (2, 0x07, 23, 0, Seq.pinit) := by decide
theorem test_band3 :
    sees selected (exec (.band3 0 0) (selecting 127)) = some (3, 0x0F, 20, 0, Seq.pinit) := by decide
theorem test_band4 :
    sees selected (exec (.band4 0 0) (selecting 128)) = some (4, 0x1F, 18, 0, Seq.pinit) := by decide
theorem test_band5 :
    sees selected (exec (.band5 0 0) (selecting 160)) = some (5, 0x3F, 15, 0, Seq.pinit) := by decide
theorem test_band6 :
    sees selected (exec (.band6 0 0) (selecting 223)) = some (6, 0x7F, 13, 0, Seq.pinit) := by decide
theorem test_band7 :
    sees selected (exec (.band7 0 0) (selecting 224)) = some (7, 0xFF, 10, 2, Seq.emit) := by decide
theorem test_band_of_another_band : why (exec (.band5 0 0) (selecting 159)) = some .otherBand := by decide

/-- Vector V8. -/
theorem test_setup :
    sees (fun s => (s.armed, s.seq, s.trace)) (exec .setup { State.reset with seq := Seq.boot }) =
      some (true, Seq.idle, [.adcStart]) := by decide

theorem test_enter_keeps_done :
    sees (fun s => (s.seq, s.done)) (exec .enter { base with armed := false, done := true }) =
      some (Seq.capture, true) := by decide
theorem test_enter_not_pending : why (exec .enter base) = some .notEnabled := by decide

theorem test_complete :
    sees (fun s => (s.raw, s.armed, s.done, s.seq)) (exec (.complete 700) base) =
      some (700, false, true, Seq.idle) := by decide
theorem test_complete_unarmed :
    why (exec (.complete 700) { base with armed := false }) = some .spuriousCompletion := by decide

/-- Vector V1. -/
theorem test_capture :
    sees (fun s => (s.scaled, s.seq)) (exec .capture { inside Seq.capture with raw := 127 }) =
      some (31, Seq.select) := by decide
theorem test_capture_highest :
    sees (fun s => s.scaled) (exec .capture { inside Seq.capture with raw := 1023 }) = some 255 := by decide

theorem test_select_edge :
    sees (fun s => (s.band, s.midx)) (exec .select (selecting 127)) = some (3, 0) := by decide
theorem test_select_above_edge :
    sees (fun s => (s.band, s.delay, s.trace)) (exec .select (selecting 128)) = some (4, 18, [.led 0x1F]) := by decide

/-- Vector V5. -/
theorem test_txsend :
    sees (fun s => (s.txBusy, s.midx, s.trace)) (exec .txsend { inside Seq.emit with msg := 2, midx := 13 }) =
      some (true, 13, [.tx 0x78]) := by decide
theorem test_txsend_busy :
    why (exec .txsend { inside Seq.emit with msg := 1, txBusy := true }) = some .notEnabled := by decide

theorem test_txdone_last :
    sees (fun s => (s.txBusy, s.midx, s.seq)) (exec .txdone { inside Seq.emit with midx := 18, txBusy := true }) =
      some (false, 19, Seq.pinit) := by decide
theorem test_txdone_idle_line :
    sees (fun s => (s.midx, s.seq)) (exec .txdone { inside Seq.emit with midx := 4 }) = some (4, Seq.emit) := by
  decide

/-- Vector V6. -/
theorem test_pinit :
    sees (fun s => (s.motor, s.stepNo, s.timer, s.seq, s.trace))
      (exec .pinit { inside Seq.pinit with motor := 0x55, delay := 18, stepNo := 72 }) =
      some (0x80, 0, 18, Seq.hold, [.motor 0x80]) := by decide

theorem test_padv_shift :
    sees (fun s => (s.motor, s.stepNo, s.timer)) (exec .padv { inside Seq.padv with motor := 0x80, delay := 18 }) =
      some (0x40, 1, 18) := by decide
theorem test_padv_wrap :
    sees (fun s => (s.motor, s.stepNo, s.seq, s.trace))
      (exec .padv { inside Seq.padv with motor := 0x10, stepNo := 71 }) =
      some (0x80, 72, Seq.hold, [.motor 0x80]) := by decide

theorem test_expire_more :
    sees (fun s => s.seq) (exec .expire { inside Seq.hold with stepNo := 71 }) = some Seq.padv := by decide
theorem test_expire_last :
    sees (fun s => s.seq) (exec .expire { inside Seq.hold with stepNo := 72 }) = some Seq.ack := by decide

/-- Vector V7. -/
theorem test_tick :
    sees (fun s => s.timer) (exec .tick { inside Seq.hold with timer := 18 }) = some 17 := by decide
theorem test_tick_elsewhere :
    sees (fun s => (s.timer, s.seq)) (exec .tick { inside Seq.emit with timer := 3 }) =
      some (3, Seq.emit) := by decide

theorem test_ack :
    sees (fun s => (s.done, s.armed, s.seq, s.trace)) (exec .ack (inside Seq.ack)) =
      some (false, true, Seq.idle, [.adcStart]) := by decide

theorem test_reset :
    sees (fun s => (s.seq, s.ieG, s.ieP, s.ieAdc)) (exec .reset (inside 6)) =
      some (Seq.boot, false, false, false) := by decide
theorem test_reset_flags :
    sees (fun s => (s.armed, s.done, s.txBusy, s.trace)) (exec .reset { inside 4 with txBusy := true }) =
      some (false, false, false, []) := by decide

/-! ## Placing a word after reset -/

theorem test_place_sample_word :
    sees (fun s => s.band) (step (State.reset.withFetchWord 16 0b1101111111)) = some 6 := by decide
theorem test_place_padv :
    sees (fun s => s.motor) (step (State.reset.withFetchWord 8 0b0111)) = some 0x40 := by decide
theorem test_place_txsend :
    sees (fun s => s.trace) (step (State.reset.withFetchWord 8 0b0100)) = some [.tx 0x56] := by decide

/-! ## Witnesses: for every obligation with hypotheses, states and operands that meet them together -/

theorem witness_SetupArmsTheFirstConversion :
    { base with seq := Seq.boot }.seq = Seq.boot ∧
    exec .reset base = .next base.resetBlock ∧ base.seq ≠ Seq.boot ∧ base.resetBlock.seq = Seq.boot :=
  ⟨rfl, rfl, by decide, rfl⟩

theorem witness_CompleteDeliversTheSample :
    base.armed = true ∧
    exec .ack (inside Seq.ack) = .next (inside Seq.ack).returnFromHandler ∧ Instr.ack ≠ .reset ∧
    (∀ r : Sample, Instr.ack ≠ .complete r) := ⟨rfl, rfl, by decide, fun _ => nofun⟩

/-- A pending notification with its enables set. -/
def pending : State := { base with armed := false, done := true }

theorem witness_EnterTakesTheNotification :
    pending.seq = Seq.idle ∧ pending.done = true ∧ pending.ieG = true ∧ pending.ieP = true ∧ pending.ieAdc = true := by
  decide

theorem witness_NotificationWaitsForItsEnables :
    base.seq = Seq.idle ∧ base.done = false ∧
    { pending with ieG := false }.seq = Seq.idle ∧ { pending with ieG := false }.ieG = false ∧
    { pending with ieP := false }.seq = Seq.idle ∧ { pending with ieP := false }.ieP = false ∧
    { pending with ieAdc := false }.seq = Seq.idle ∧ { pending with ieAdc := false }.ieAdc = false := by decide

theorem witness_CaptureDiscardsTheTwoLowBits : (inside Seq.capture).seq = Seq.capture := by decide

theorem witness_AckClearsAndRearms : (inside Seq.ack).seq = Seq.ack := by decide

theorem witness_SelectWritesTheEntryOfItsBand : (selecting 32).seq = Seq.select := by decide

theorem witness_BandOperationsWriteTheirRows :
    (selecting 31).seq = Seq.select ∧ (selecting 31).scaled.toNat ≤ 31 ∧
    32 ≤ (selecting 32).scaled.toNat ∧ 32 ≤ (selecting 63).scaled.toNat ∧ (selecting 63).scaled.toNat ≤ 63 ∧
    64 ≤ (selecting 64).scaled.toNat ∧ (selecting 95).scaled.toNat ≤ 95 ∧
    96 ≤ (selecting 96).scaled.toNat ∧ (selecting 127).scaled.toNat ≤ 127 ∧
    128 ≤ (selecting 128).scaled.toNat ∧ (selecting 159).scaled.toNat ≤ 159 ∧
    160 ≤ (selecting 160).scaled.toNat ∧ (selecting 191).scaled.toNat ≤ 191 ∧
    192 ≤ (selecting 192).scaled.toNat ∧ (selecting 223).scaled.toNat ≤ 223 ∧
    224 ≤ (selecting 224).scaled.toNat ∧ 224 ≤ (selecting 255).scaled.toNat := by decide

theorem witness_SelectRunsTheDecodedSampleWord :
    (selecting 175).seq = Seq.select ∧ reduceSample 700 = (selecting 175).scaled := by decide

theorem witness_SampleWordOfAnotherBandIsRefused :
    (selecting 31).seq = Seq.select ∧ sampleBand 0x080 ≠ bandBits (selecting 31).scaled := by decide

/-- `S_EMIT`, ready to send a byte of a message. -/
def sending (m : MsgCode) (n : BitVec 5) : State := { inside Seq.emit with msg := m, midx := n }

theorem witness_TxsendHandsOverTheNextByte :
    (sending 1 0).seq = Seq.emit ∧ (sending 1 0).txBusy = false ∧ (sending 1 0).midx < 19 ∧
    (sending 1 0).msg = Msg.min ∧
    (sending 2 18).seq = Seq.emit ∧ (sending 2 18).txBusy = false ∧ (sending 2 18).midx < 19 ∧
    (sending 2 18).msg = Msg.max := by decide

theorem witness_SelectorWithoutStringIsRefused :
    (sending 0 0).seq = Seq.emit ∧ (sending 0 0).txBusy = false ∧ (sending 0 0).midx < 19 ∧
    (sending 0 0).msg = Msg.none ∧
    (sending 3 18).seq = Seq.emit ∧ (sending 3 18).txBusy = false ∧ (sending 3 18).midx < 19 ∧
    (sending 3 18).msg = 3 := by decide

/-- `S_EMIT` with a byte in the transmitter. -/
def waiting (m : MsgCode) (n : BitVec 5) : State := { sending m n with txBusy := true }

theorem witness_TxdoneAdvancesTheMessage :
    (waiting 1 0).seq = Seq.emit ∧ (waiting 1 0).txBusy = true ∧ (waiting 1 0).midx < 19 ∧
    (waiting 1 18).seq = Seq.emit ∧ (waiting 1 18).txBusy = true ∧ (waiting 1 18).midx < 19 ∧
    (sending 1 0).txBusy = false ∧ base.txBusy = false := by decide

theorem witness_PinitStartsTheRevolution : (inside Seq.pinit).seq = Seq.pinit := by decide

/-- `S_PADV` with a phase. -/
def advancing (m : Byte) : State := { inside Seq.padv with motor := m }

theorem witness_PadvMovesTheActiveLine :
    (advancing 0x10).seq = Seq.padv ∧ (advancing 0x10).stepNo < 72 ∧
    { advancing 0x10 with stepNo := 71 }.seq = Seq.padv ∧ { advancing 0x10 with stepNo := 71 }.stepNo < 72 ∧
    { advancing 0x10 with stepNo := 71 }.motor = 0x10 ∧
    (advancing 0x80).motor = 0x80 ∧ (advancing 0x40).motor = 0x40 ∧ (advancing 0x20).motor = 0x20 := by decide

/-- `S_HOLD` with a count of ticks left. -/
def holding (n : Byte) : State := { inside Seq.hold with timer := n, delay := n }

theorem witness_ExpireAdvancesOrFinishes :
    { holding 0 with stepNo := 71 }.seq = Seq.hold ∧ { holding 0 with stepNo := 71 }.timer = 0 ∧
    { holding 0 with stepNo := 71 }.stepNo.toNat < 72 ∧
    { holding 0 with stepNo := 72 }.seq = Seq.hold ∧ { holding 0 with stepNo := 72 }.timer = 0 ∧
    ¬ { holding 0 with stepNo := 72 }.stepNo.toNat < 72 := by decide

theorem witness_TickCountsDownOneMillisecond :
    (holding 1).seq = Seq.hold ∧ (holding 1).timer ≠ 0 ∧ (holding 255).seq = Seq.hold ∧ (holding 255).timer ≠ 0 := by
  decide

theorem witness_TickOutsideAHoldChangesNothing :
    base.seq ≠ Seq.hold ∧ (holding 0).seq = Seq.hold ∧ (holding 0).timer = 0 := by decide

theorem witness_PercentageRisesFromZeroToHundred : (255 : Byte).toNat = (254 : Byte).toNat + 1 := by decide

theorem witness_PercentageKeepsItsDistanceFromBoundaries :
    (1 ≤ 1 ∧ 1 ≤ 7) ∧ (1 ≤ 7 ∧ 7 ≤ 7) := by decide

theorem witness_EveryQualifyingFormatSelectsTheSameBand : QualifiesFormat pct := by
  intro c
  norm_num

theorem witness_BandRangesAreRightInclusive :
    (0 : ℚ) ≤ 0 ∧ (0 : ℚ) ≤ 12.5 ∧ (12.5 : ℚ) ≤ 100 ∧ (100 : ℚ) ≤ 100 ∧ (-1 : ℚ) < 0 ∧ (100 : ℚ) < 101 := by
  norm_num

theorem witness_EncodeOfDecodeIsTheWord :
    decode (.formatS 0x2BC) = .ok (.band5 15 0) ∧ decode (.formatQ .transmitter 4) = .ok .txdone := ⟨rfl, rfl⟩

theorem witness_EverySampleWordSelectsExactlyOneRow :
    sampleRows[(7 : BandIndex).toNat]? = some ⟨0x380, 0x380⟩ := by decide

theorem witness_ReservedCodesAreRefused :
    (8 : SeqCode) < 9 ∧ (8 : SeqCode) < 15 ∧
    8 < { inside 9 with turns := [.block] }.seq ∧ { inside 9 with turns := [.block] }.nextTurn ≠ .resetSource ∧
    { sending 3 0 with turns := [.timeBase] }.seq ≤ 8 ∧ { sending 3 0 with turns := [.timeBase] }.msg = 3 ∧
    { sending 3 0 with turns := [.timeBase] }.nextTurn ≠ .resetSource := by decide

theorem witness_StepRunsTheDecodedOperation :
    ({ pending with turns := [.block] }.seq ≤ 8 ∧ { pending with turns := [.block] }.msg ≠ 3 ∧
      { pending with turns := [.block] }.zeroTime = false ∧ { pending with turns := [.block] }.nextTurn = .block ∧
      enabled .enter { pending with turns := [.block] } = true ∧
      enabled .enter { base with turns := [.block] } = false) ∧
    decode (.formatQ .block { pending with turns := [.block] }.seq) = .ok .enter ∧
    decode (.formatQ .block { base with turns := [.block] }.seq) = .ok .enter := ⟨by decide, rfl, rfl⟩

theorem witness_StepGivesTheEnvironmentItsTurn :
    { base with turns := [.resetSource] }.nextTurn = .resetSource ∧
    (base.seq ≤ 8 ∧ base.msg ≠ 3 ∧ base.zeroTime = false ∧ base.blockOp = none) ∧
    { base with turns := [.adc 1023] }.nextTurn = .adc 1023 ∧ { base with turns := [.adc 1023] }.armed = true ∧
    { pending with turns := [.adc 0] }.nextTurn = .adc 0 ∧ { pending with turns := [.adc 0] }.armed = false ∧
    { base with turns := [.transmitter] }.nextTurn = .transmitter ∧
    { base with turns := [.timeBase] }.nextTurn = .timeBase := by decide

theorem witness_ZeroTimeRunsTheBlockFirst :
    { pending with zeroTime := true, turns := [.timeBase] }.seq ≤ 8 ∧
    { pending with zeroTime := true, turns := [.timeBase] }.msg ≠ 3 ∧
    { pending with zeroTime := true, turns := [.timeBase] }.zeroTime = true ∧
    { pending with zeroTime := true, turns := [.timeBase] }.nextTurn ≠ .resetSource ∧
    { pending with zeroTime := true, turns := [.timeBase] }.blockOp = some .enter := by decide

theorem witness_BlockOperationsFireOnlyWhenEnabled :
    encode .expire = .formatQ .block 6 ∧ enabled .expire (holding 5) = false ∧
    encode (.band0 0 0) = .formatS 0 ∧ (inside Seq.capture).seq ≠ Seq.select ∧
    encode (.band7 31 3) = .formatS 0x3FF ∧ (inside Seq.emit).seq ≠ Seq.select := by decide

theorem witness_AtMostOneBlockOperationIsEnabled :
    encode .padv = .formatQ .block 7 ∧ enabled .padv (advancing 0x80) = true := by decide

/-- The witness of the three statements about any operation that answers a next state. -/
theorem witness_RegistersHaveOnlyTheirWriters :
    sees (fun s => s.midx) (exec .txdone (waiting 1 4)) = some 5 ∧
    writerOf .txdone ≠ .reset ∧ writerOf .txdone ∉ Reg.led.writers := by decide

theorem witness_SeqMovesOnlyByTheTransitionTable :
    exec .ack (inside Seq.ack) = .next (inside Seq.ack).returnFromHandler := rfl

theorem witness_EventsComeOnlyFromTheirOperations :
    exec .pinit (inside Seq.pinit) =
      .next (({ (inside Seq.pinit).writePhase 0x80 with stepNo := 0 }.loadTimer).setSeq Seq.hold) := rfl

theorem witness_LowSampleBitsHaveNoEffect :
    { inside Seq.capture with raw := 128 }.AgreesOnBand { inside Seq.capture with raw := 255 } ∧
    base.armed = true ∧ sampleBand 0x2BC = sampleBand 0x280 := ⟨⟨rfl, by decide, by decide⟩, by decide, by decide⟩

/-- In the middle of a revolution of band 4. -/
def turning : State :=
  { inside Seq.hold with
    raw := 512, scaled := 128, band := 4, led := 0x1F, delay := 18, timer := 5, stepNo := 2, motor := 0x20,
    turns := [.timeBase] }

theorem turning_inv : turning.Inv := by
  constructor <;> try
      simp only [State.inHandler, State.phaseWritten, State.bandChosen, State.bandShown, State.enablesSet]
  all_goals decide

/-- The same band, its revolution done. -/
def finished : State := { turning with seq := Seq.ack, stepNo := 72, timer := 0, motor := 0x80, turns := [.block] }

theorem finished_inv : finished.Inv := by
  constructor <;> try
      simp only [State.inHandler, State.phaseWritten, State.bandChosen, State.bandShown, State.enablesSet]
  all_goals decide

theorem base_inv : base.Inv := by
  constructor <;> try
      simp only [State.inHandler, State.phaseWritten, State.bandChosen, State.bandShown, State.enablesSet]
  all_goals decide

theorem waiting_inv : { waiting 1 4 with led := 0x01, delay := 30 }.Inv := by
  constructor <;> try
      simp only [State.inHandler, State.phaseWritten, State.bandChosen, State.bandShown, State.enablesSet]
  all_goals decide

theorem witness_EveryStepKeepsTheInvariant :
    turning.Inv ∧ step turning = .next { turning with timer := 4, turns := [], trace := [.tickMs] } :=
  ⟨turning_inv, rfl⟩

theorem witness_NoStepStopsUnderTheInvariant : finished.Inv := finished_inv

theorem witness_SelectedBandIsKeptUntilReset :
    (selecting 200).seq = Seq.select ∧ turning.Selected ∧ turning.nextTurn ≠ .resetSource ∧
    step turning = .next { turning with timer := 4, turns := [], trace := [.tickMs] } :=
  ⟨rfl, ⟨⟨rfl, rfl⟩, by decide⟩, by decide, rfl⟩

theorem witness_ExactlyOneMotorLineStaysActive :
    (inside Seq.pinit).seq = Seq.pinit ∧ nextPhase turning.motor ≠ none ∧ turning.nextTurn ≠ .resetSource ∧
    step turning = .next { turning with timer := 4, turns := [], trace := [.tickMs] } :=
  ⟨rfl, by decide, by decide, rfl⟩

theorem witness_ExternalEventsNeverCompete :
    (base.Inv ∧ base.armed = true) ∧
    ({ waiting 1 4 with led := 0x01, delay := 30 }.Inv ∧
      { waiting 1 4 with led := 0x01, delay := 30 }.canTxDone = true) ∧
    (turning.Inv ∧ turning.canTick = true) := ⟨⟨base_inv, rfl⟩, ⟨waiting_inv, rfl⟩, ⟨turning_inv, rfl⟩⟩

theorem witness_BusyShowsTheHandler : (inside Seq.capture).seq ≤ Seq.ack ∧ base.seq ≤ Seq.ack := by decide

theorem witness_HandlerIsNotReentered :
    (turning.Inv ∧ turning.inHandler ∧ turning.nextTurn ≠ .resetSource ∧
      step turning = .next { turning with timer := 4, turns := [], trace := [.tickMs] }) ∧
    (finished.Inv ∧ finished.inHandler ∧ finished.nextTurn ≠ .resetSource ∧
      step finished = .next { finished with
        seq := Seq.idle, armed := true, done := false, turns := [], trace := [.adcStart] }) :=
  ⟨⟨turning_inv, ⟨by decide, by decide⟩, by decide, rfl⟩, ⟨finished_inv, ⟨by decide, by decide⟩, by decide, rfl⟩⟩

theorem witness_RevolutionBlocksEverythingElse :
    turning.Inv ∧ turning.seq = Seq.hold ∧ turning.nextTurn ≠ .resetSource ∧
    step turning = .next { turning with timer := 4, turns := [], trace := [.tickMs] } :=
  ⟨turning_inv, rfl, by decide, rfl⟩

theorem witness_AckReachesTheQuiescentPoint : finished.Inv ∧ finished.seq = Seq.ack := ⟨finished_inv, rfl⟩

theorem witness_HoldLastsExactlyItsTicks :
    (holding 3).seq = Seq.hold ∧ (holding 3).msg ≠ 3 ∧
    { holding 3 with turns := [.timeBase, .timeBase, .timeBase, .block] }.turns =
      List.replicate 3 Agent.timeBase ++ [.block] := by decide

/-- Ready to send a whole message, under the zero-time reading. -/
def message : State := { sending 1 0 with zeroTime := true, turns := List.replicate 19 Agent.transmitter }

theorem witness_MessageSendsItsNineteenBytes :
    message.seq = Seq.emit ∧ message.txBusy = false ∧ message.midx = 0 ∧ message.msg = Msg.min ∧
    message.zeroTime = true ∧ message.turns = List.replicate 19 Agent.transmitter ++ [] := by decide

/-- Ready for a whole revolution, under the zero-time reading. -/
def starting : State :=
  { inside Seq.pinit with
    delay := 1, zeroTime := true, turns := List.replicate (73 * 1) Agent.timeBase ++ [Agent.block] }

theorem witness_RevolutionMakes73PhaseWrites :
    starting.seq = Seq.pinit ∧ starting.msg ≠ 3 ∧ starting.zeroTime = true ∧ Agent.block ≠ .resetSource ∧
    starting.turns = List.replicate (73 * starting.delay.toNat) Agent.timeBase ++ Agent.block :: [] :=
  ⟨rfl, by decide, rfl, by decide, rfl⟩

/-- At a quiescent point, with the turns of one sample of band 7 to come. -/
def serving : State := { base with zeroTime := true, turns := sampleTurns 1023 ++ Agent.timeBase :: [] }

theorem witness_OneSampleIsServedInOrder :
    serving.quiescent ∧ serving.done = false ∧ serving.txBusy = false ∧ serving.enablesSet ∧ serving.msg ≠ 3 ∧
    serving.zeroTime = true ∧ Agent.timeBase ≠ .resetSource ∧
    serving.turns = sampleTurns 1023 ++ Agent.timeBase :: [] :=
  ⟨⟨rfl, rfl⟩, rfl, rfl, ⟨rfl, rfl, rfl⟩, by decide, rfl, by decide, rfl⟩

theorem witness_SilentTransmitterHangsTheBlock :
    { waiting 1 4 with turns := [.timeBase, .adc 5, .block, .timeBase] }.seq = Seq.emit ∧
    (waiting 1 4).txBusy = true ∧ (waiting 1 4).armed = false ∧ (waiting 1 4).msg ≠ 3 ∧
    Agent.transmitter ∉ [Agent.timeBase, .adc 5, .block] ∧ Agent.resetSource ∉ [Agent.timeBase, .adc 5, .block] ∧
    { waiting 1 4 with turns := [.timeBase, .adc 5, .block, .timeBase] }.turns =
      [Agent.timeBase, .adc 5, .block] ++ [.timeBase] := by decide

theorem witness_FairAgentsEndTheWaits :
    (AdcFair (fun _ => .adc 5) ∧ base.seq = Seq.idle ∧ base.armed = true ∧ base.done = false ∧ base.msg ≠ 3) ∧
    (TxFair (fun _ => .transmitter) ∧ (waiting 1 4).seq = Seq.emit ∧ (waiting 1 4).txBusy = true ∧
      (waiting 1 4).armed = false ∧ (waiting 1 4).msg ≠ 3) :=
  ⟨⟨fun n => ⟨n, Nat.le_refl n, 5, rfl⟩, by decide⟩, ⟨fun n => ⟨n, Nat.le_refl n, rfl⟩, by decide⟩⟩

theorem witness_CompletionsOutsideTheirGuards :
    (inside Seq.hold).armed = false ∧
    { base with txBusy := true }.seq ≠ Seq.emit ∧ { base with txBusy := true }.txBusy = true ∧
    { inside Seq.pinit with txBusy := true }.seq ≠ Seq.emit := by decide

theorem witness_OperationsBeyondTheirRanges :
    (waiting 1 19).seq = Seq.emit ∧ (waiting 1 19).txBusy = true ∧ 19 ≤ (waiting 1 19).midx ∧
    19 ≤ (waiting 1 31).midx ∧
    { advancing 0x10 with stepNo := 72 }.seq = Seq.padv ∧ 72 ≤ { advancing 0x10 with stepNo := 72 }.stepNo ∧
    72 ≤ { advancing 0x10 with stepNo := 127 }.stepNo ∧
    nextPhase { advancing 0x10 with stepNo := 127 }.motor = some 0x80 ∧
    (advancing 0x30).seq = Seq.padv ∧ (advancing 0x30).motor ≠ 0x80 ∧ (advancing 0x30).motor ≠ 0x40 ∧
    (advancing 0x30).motor ≠ 0x20 ∧ (advancing 0x30).motor ≠ 0x10 := by decide

end Sys2Proof.Tests
end

