-- ==== Sys2Proof/Proofs/SampleCapture.lean ====
section
/-! PROOFS. Sample capture, acknowledge and re-arm (rules R73, R75). -/

namespace Sys2Proof.Machine

/-- The reduction of rule R73 is whole division by 4: a sample is below 1024, so its quotient fits in a byte and the
slice loses nothing but the two low bits. -/
@[simp] theorem toNat_reduceSample (r : Sample) : (reduceSample r).toNat = r.toNat / 4 := by
  have hfits : r.toNat / 4 < 2 ^ 8 := by omega
  calc (reduceSample r).toNat
    _ = (r.toNat >>> 2) % 2 ^ 8 := BitVec.extractLsb'_toNat 2 8 r
    _ = (r.toNat / 4) % 2 ^ 8 := by rw [Nat.shiftRight_eq_div_pow]
    _ = r.toNat / 4 := Nat.mod_eq_of_lt hfits

/-- Settles O7: `CAPTURE` writes the reduction of `RAW`, which is `RAW / 4`. -/
theorem captureDiscardsTheTwoLowBits : Obligations.CaptureDiscardsTheTwoLowBits := by
  intro s hseq
  exact ⟨reduceSample s.raw, toNat_reduceSample s.raw, (execCapture_next_iff s _).2 ⟨hseq, rfl⟩⟩

/-- Settles O8: the whole-state equation of the return from the handler, which is what `ACK` does in `S_ACK`. -/
theorem ackClearsAndRearms : Obligations.AckClearsAndRearms := by
  intro s hseq
  exact (execAck_next_iff s _).2 ⟨hseq, rfl⟩

end Sys2Proof.Machine
end

/-! PROOFS. Band selection: the ranges of `band_of`, its agreement with the slice `SCALED[7:5]`, and what `SELECT`
and its eight cases write (rules R86 to R96, R99). -/

namespace Sys2Proof.Machine

/-! ## The ranges of the bands -/

/-- `p` is in the range of band `k`: above `12.5 k` and up to `12.5 (k + 1)`, where the first band has no lower bound
and the last no upper bound, as in the cascade of rule R86. -/
def InBandRange (k : BandIndex) (p : ℚ) : Prop :=
  (k = 0 ∨ 12.5 * k.toNat < p) ∧ (k = 7 ∨ p ≤ 12.5 * (k.toNat + 1))

/-- The range of a band of index `n`, with both bounds. -/
theorem inBandRange_of_bounds {k : BandIndex} {p : ℚ} (n : ℕ) (hn : k.toNat = n) (hlow : 12.5 * (n : ℚ) < p)
    (hhigh : p ≤ 12.5 * ((n : ℚ) + 1)) : InBandRange k p := by
  subst hn
  exact ⟨.inr hlow, .inr hhigh⟩

/-- The cascade answers a band whose range holds the percentage: the comparison that chose the band is its upper
bound, and the one refused just before is its lower bound. -/
theorem inBandRange_bandCascade (p : ℚ) : InBandRange (bandCascade p) p := by
  unfold bandCascade
  split_ifs
  · exact ⟨.inl rfl, .inr (by linarith)⟩
  · exact inBandRange_of_bounds 1 rfl (by linarith) (by linarith)
  · exact inBandRange_of_bounds 2 rfl (by linarith) (by linarith)
  · exact inBandRange_of_bounds 3 rfl (by linarith) (by linarith)
  · exact inBandRange_of_bounds 4 rfl (by linarith) (by linarith)
  · exact inBandRange_of_bounds 5 rfl (by linarith) (by linarith)
  · exact inBandRange_of_bounds 6 rfl (by linarith) (by linarith)
  · exact ⟨.inr (by push_cast; linarith), .inl rfl⟩

/-- The ranges of two bands in order do not meet: the upper bound of the lower one is at most the lower bound of the
higher one. -/
theorem not_inBandRange_of_lt {j k : BandIndex} {p : ℚ} (hlt : j < k) (hj : InBandRange j p) : ¬ InBandRange k p := by
  intro hk
  have hupper : p ≤ 12.5 * (j.toNat + 1) := hj.2.resolve_left (by bv_omega)
  have hlower : 12.5 * (k.toNat : ℚ) < p := hk.1.resolve_left (by bv_omega)
  have hsucc : (j.toNat : ℚ) + 1 ≤ k.toNat := by exact_mod_cast BitVec.lt_def.mp hlt
  linarith

/-- Rule R86 for every rational: the cascade answers `k` exactly on the range of band `k`. -/
theorem bandCascade_eq_iff (p : ℚ) (k : BandIndex) : bandCascade p = k ↔ InBandRange k p := by
  constructor
  · rintro rfl
    exact inBandRange_bandCascade p
  · intro hk
    have hp := inBandRange_bandCascade p
    rcases BitVec.lt_trichotomy (bandCascade p) k with hlt | heq | hgt
    · exact absurd hk (not_inBandRange_of_lt hlt hp)
    · exact heq
    · exact absurd hp (not_inBandRange_of_lt hgt hk)

/-- On its domain `band_of` is the cascade. -/
theorem bandOf_of_mem {p : ℚ} (h0 : 0 ≤ p) (h100 : p ≤ 100) : bandOf p = some (bandCascade p) := if_pos ⟨h0, h100⟩

/-- Rule R99: outside [0, 100] `band_of` has no answer. -/
theorem bandOf_of_not_mem {p : ℚ} (h : p < 0 ∨ 100 < p) : bandOf p = none := by
  refine if_neg ?_
  rintro ⟨h0, h100⟩
  exact h.elim (not_lt.2 h0) (not_lt.2 h100)

/-- Settles O26: on [0, 100] `band_of` is the cascade, which answers a band exactly on that band's range; outside it
there is no answer. -/
theorem bandRangesAreRightInclusive : Obligations.BandRangesAreRightInclusive := by
  refine ⟨fun p h0 h100 k => ?_, fun p h => bandOf_of_not_mem h⟩
  rw [bandOf_of_mem h0 h100, Option.some_inj]
  exact bandCascade_eq_iff p k

/-! ## The band of a count -/

/-- Every percentage is in the domain of `band_of` (rule R74). -/
theorem pct_mem (c : Byte) : 0 ≤ pct c ∧ pct c ≤ 100 := by
  have hc : (c.toNat : ℚ) ≤ 255 := by exact_mod_cast Nat.le_of_lt_succ c.isLt
  unfold pct
  constructor
  · positivity
  · linarith

/-- The band bits are the count divided by the 32 counts of a band. -/
@[simp] theorem toNat_bandBits (c : Byte) : (bandBits c).toNat = c.toNat / 32 := by
  have hfits : c.toNat / 32 < 2 ^ 3 := by omega
  calc (bandBits c).toNat
    _ = (c.toNat >>> 5) % 2 ^ 3 := BitVec.extractLsb'_toNat 5 3 c
    _ = (c.toNat / 32) % 2 ^ 3 := by rw [Nat.shiftRight_eq_div_pow]
    _ = c.toNat / 32 := Nat.mod_eq_of_lt hfits

/-- The 32 counts of each band. -/
theorem bandBits_eq_iff (c : Byte) (k : BandIndex) :
    bandBits c = k ↔ 32 * k.toNat ≤ c.toNat ∧ c.toNat ≤ 32 * k.toNat + 31 := by
  rw [← BitVec.toNat_inj, toNat_bandBits]
  omega

/-- The percentage of a count is in the range of the count's band bits. Scaled by 255 / 12.5 the bounds read
`255 k < 8 c` and `8 c ≤ 255 (k + 1)`, and the counts of band `k` are `32 k` to `32 k + 31` with `k ≤ 7`. -/
theorem inBandRange_pct (c : Byte) : InBandRange (bandBits c) (pct c) := by
  obtain ⟨hlow, hhigh⟩ := (bandBits_eq_iff c _).1 rfl
  have hk : (bandBits c).toNat ≤ 7 := Nat.le_of_lt_succ (bandBits c).isLt
  unfold InBandRange pct
  constructor
  · refine or_iff_not_imp_left.2 fun hne => ?_
    have hpos : 0 < (bandBits c).toNat := by bv_omega
    have hbound : (255 : ℚ) * (bandBits c).toNat < 8 * c.toNat := by
      exact_mod_cast (by omega : 255 * (bandBits c).toNat < 8 * c.toNat)
    linarith
  · right
    have hbound : (8 : ℚ) * c.toNat ≤ 255 * ((bandBits c).toNat + 1) := by
      exact_mod_cast (by omega : 8 * c.toNat ≤ 255 * ((bandBits c).toNat + 1))
    linarith

/-- Rule R87: the band of the exact percentage of a count is the count's slice `[7:5]`. -/
theorem bandOf_pct (c : Byte) : bandOf (pct c) = some (bandBits c) := by
  rw [bandOf_of_mem (pct_mem c).1 (pct_mem c).2, (bandCascade_eq_iff _ _).2 (inBandRange_pct c)]

/-! ## What the operations write -/

/-- Settles O9: the band of the exact percentage is the slice by which `SELECT` reads the table. -/
theorem selectWritesTheEntryOfItsBand : Obligations.SelectWritesTheEntryOfItsBand := by
  intro s hseq
  exact ⟨bandBits s.scaled, bandOf_pct s.scaled, (execSelect_next_iff s _).2 ⟨hseq, rfl⟩⟩

/-- In `S_SELECT` the operation of band `k` makes `SELECT`'s writes for `k`, for each of the 32 counts of its band and
whatever its operands. -/
theorem exec_bandInstr_of_counts {s : State} (hseq : s.seq = Seq.select) (k : BandIndex) (sub : BitVec 5)
    (frac : BitVec 2) (hlow : 32 * k.toNat ≤ s.scaled.toNat) (hhigh : s.scaled.toNat ≤ 32 * k.toNat + 31) :
    exec (bandInstr k sub frac) s = .next (s.selectBand k) := by
  rw [exec_bandInstr, bandCase_next_iff]
  exact ⟨hseq, (bandBits_eq_iff s.scaled k).2 ⟨hlow, hhigh⟩, rfl⟩

/-- Settles O10: each band operation is the operation of its index, and the rows of rules R89 to R96 are the entries of
the table; a count is never below band 0 nor above band 7. -/
theorem bandOperationsWriteTheirRows : Obligations.BandOperationsWriteTheirRows := by
  intro s sub frac hseq
  have row := fun k => exec_bandInstr_of_counts hseq k sub frac
  exact ⟨row 0 (Nat.zero_le _), row 1, row 2, row 3, row 4, row 5, row 6,
    fun hlow => row 7 hlow (Nat.le_of_lt_succ s.scaled.isLt)⟩

end Sys2Proof.Machine

/-! PROOFS. The status message: the hand-off of a byte and its completion (rules R101, R102). -/

namespace Sys2Proof.Machine

/-- A selected message has a byte at every index below its length (rules R43, R44). -/
theorem exists_msgByte {m : MsgCode} {i : BitVec 5} (hm : m = Msg.min ∨ m = Msg.max) (hi : i < 19) :
    ∃ b, msgByte m i = some b :=
  Option.isSome_iff_exists.1 ((msgByte_isSome_iff m i).2 ⟨hm, hi⟩)

/-- Settles O13: the byte that `TXSEND` hands over is the one the table holds at `MIDX`. -/
theorem txsendHandsOverTheNextByte : Obligations.TxsendHandsOverTheNextByte := by
  intro s hseq hfree hidx hmsg
  obtain ⟨b, hb⟩ := exists_msgByte hmsg hidx
  exact ⟨b, hb, (execTxsend_next_iff s _).2 ⟨⟨hseq, hfree, hidx⟩, b, hb, rfl⟩⟩

/-- Settles O15: `TXBUSY` decides which of the two effects of `TXDONE` applies in `S_EMIT`. Its advance leaves `SEQ`
alone before the last byte, and there `SEQ` is `S_EMIT`. -/
theorem txdoneAdvancesTheMessage : Obligations.TxdoneAdvancesTheMessage := by
  intro s
  constructor
  · intro hseq hbusy _
    rw [execTxdone_next_iff]
    exact .inl ⟨⟨hseq, hbusy⟩, by rw [hseq]⟩
  · intro hfree
    have hout : ¬(s.seq = Seq.emit ∧ s.txBusy = true) := by simp [hfree]
    exact (execTxdone_next_iff s s).2 (.inr ⟨hout, rfl⟩)

end Sys2Proof.Machine

/-! PROOFS. The phase sequencer: the first phase write, an advance, and the end of a hold (rules R111 to R113). -/

namespace Sys2Proof.Machine

/-- Settles O16: `PINIT` writes `lineHigh`, which is 0x80, and reads no `MOTOR`. -/
theorem pinitStartsTheRevolution : Obligations.PinitStartsTheRevolution := by
  intro s hseq
  exact (execPinit_next_iff s _).2 ⟨hseq, rfl⟩

/-- Settles O17: the two alternatives for `v`, the wrap and the shift, are those of `nextPhase`. `PADV` does not read
`STEP` to decide. -/
theorem padvMovesTheActiveLine : Obligations.PadvMovesTheActiveLine := by
  intro s hseq _ v hv
  have hnext : nextPhase s.motor = some v := (nextPhase_eq_some_iff s.motor v).2 hv
  exact (execPadv_next_iff s _).2 ⟨hseq, v, hnext, rfl⟩

/-- The test of rule R113 as a comparison of numbers: `STEP` is unsigned, and the limit 72 fits in its 7 bits. -/
theorem lt_nAdvances_iff (n : BitVec 7) : n < nAdvances ↔ n.toNat < 72 := BitVec.lt_def

/-- Settles O18: at the end of a hold `EXPIRE` writes `SEQ` alone, by the comparison of `STEP` with 72. -/
theorem expireAdvancesOrFinishes : Obligations.ExpireAdvancesOrFinishes := by
  intro s hseq htimer
  rw [execExpire_next_iff]
  refine ⟨⟨hseq, htimer⟩, ?_⟩
  simp only [lt_nAdvances_iff, State.setSeq]

end Sys2Proof.Machine

/-! PROOFS. The delay timer: a tick inside a hold and a tick elsewhere (rules R127, R131). -/

namespace Sys2Proof.Machine

/-- The mark of a tick is not an event at an output port (rule R34). -/
@[simp] theorem State.emitted_emit_tickMs (s : State) : (s.emit .tickMs).emitted = s.emitted := by
  simp [State.emitted]

/-- The count of rule R127 does not wrap around: a timer that is not 0 is the successor of the value one below it. -/
theorem toNat_sub_one_add_one {timer : Byte} (h : timer ≠ 0) : (timer - 1).toNat + 1 = timer.toNat := by
  bv_omega

/-- Settles O19: under its guard `TICK` writes `TIMER - 1` and marks the tick, and nothing more. -/
theorem tickCountsDownOneMillisecond : Obligations.TickCountsDownOneMillisecond := by
  intro s hseq htimer
  have htick : exec .tick s = .next ({ s with timer := s.timer - 1 }.emit .tickMs) :=
    (execTick_next_iff s _).2 (.inl ⟨⟨hseq, htimer⟩, rfl⟩)
  exact ⟨s.timer - 1, _, toNat_sub_one_add_one htimer, htick, rfl, State.emitted_emit_tickMs _⟩

/-- Settles O20: either premise denies the guard of `TICK`, and outside the guard the tick is only marked. -/
theorem tickOutsideAHoldChangesNothing : Obligations.TickOutsideAHoldChangesNothing := by
  intro s hout
  have hguard : ¬(s.seq = Seq.hold ∧ s.timer ≠ 0) := by
    rintro ⟨hseq, htimer⟩
    exact hout.elim (· hseq) htimer
  have htick : exec .tick s = .next (s.emit .tickMs) := (execTick_next_iff s _).2 (.inr ⟨hguard, rfl⟩)
  exact ⟨_, htick, rfl, State.emitted_emit_tickMs s⟩

end Sys2Proof.Machine

/-! PROOFS. The notification path: the completion of a conversion and the entry to the handler (rules R139, R144). -/

namespace Sys2Proof.Machine

/-- The frame of `RAW` (rule R139): an operation other than `RESET` and `COMPLETE` leaves it as it is. -/
def KeepsRaw (i : Instr) (s t : State) : Prop := i ≠ .reset → (∀ r : Sample, i ≠ .complete r) → t.raw = s.raw

/-- Of all the effects an operation can have, the reset of the block and the delivery of a sample alone write `RAW`. -/
theorem exec_keepsRaw {i : Instr} {s t : State} (h : exec i s = .next t) : KeepsRaw i s t := by
  apply exec_next_cases KeepsRaw (h := h)
  case hreset =>
    intro s hreset
    exact absurd rfl hreset
  case hcomplete =>
    intro s r _ _ hcomplete
    exact absurd rfl (hcomplete r)
  all_goals
    intros
    exact fun _ _ => rfl

/-- Settles O4: with `ARMED = 1` the completion is not spurious, so its three writes are made; that `RAW` is kept is its
frame. -/
theorem completeDeliversTheSample : Obligations.CompleteDeliversTheSample := by
  constructor
  · intro s r harmed
    exact (execComplete_next_iff r s _).2 ⟨harmed, rfl⟩
  · intro i s t h
    exact exec_keepsRaw h

/-- Settles O5: with `DONE` and the three enables at 1 the notification is deliverable, and taking it writes `SEQ`
alone. -/
theorem enterTakesTheNotification : Obligations.EnterTakesTheNotification := by
  intro s hseq hdone hieG hieP hieAdc
  have hdeliverable : s.deliverable = true := s.deliverable_iff.2 ⟨hdone, hieG, hieP, hieAdc⟩
  exact (execEnter_next_iff s _).2 ⟨⟨hseq, hdeliverable⟩, rfl⟩

end Sys2Proof.Machine

/-! PROOFS. Reset and one-time setup (rules R161, R162). -/

namespace Sys2Proof.Machine

/-- Settles O1: `RESET` always answers `resetBlock`, whose registers are those of `State.reset` and whose trace is the
one before; the two ports show the two parameters. -/
theorem resetGivesTheResetValues : Obligations.ResetGivesTheResetValues := by
  intro s
  refine ⟨s.resetBlock, (execReset_next_iff s _).2 rfl, ?_⟩
  exact ⟨rfl, rfl, rfl, rfl, rfl, rfl, rfl, rfl, rfl, rfl, rfl, rfl⟩

/-- An operation other than `RESET` does not bring `SEQ` to `S_BOOT` (rule R162). -/
def StaysOutOfBoot (i : Instr) (s t : State) : Prop := i ≠ .reset → s.seq ≠ Seq.boot → t.seq ≠ Seq.boot

/-- `SELECT` goes to `S_PINIT` or to `S_EMIT`, whatever the band. -/
theorem selectBand_seq_ne_boot (s : State) (k : BandIndex) : (s.selectBand k).seq ≠ Seq.boot := by
  rw [State.selectBand_seq]
  split_ifs <;> decide

/-- Of all the effects an operation can have, only the reset of the block writes `S_BOOT`: the others leave `SEQ` as it
is or write one of the other eight codes. -/
theorem exec_staysOutOfBoot {i : Instr} {s t : State} (h : exec i s = .next t) : StaysOutOfBoot i s t := by
  apply exec_next_cases StaysOutOfBoot (h := h)
  case hreset =>
    intro s hreset
    exact absurd rfl hreset
  case hcomplete | htxsend | htxidle | htick | htickidle =>
    intros
    exact fun _ hout => hout
  case hselect =>
    intro s _ _ _
    exact selectBand_seq_ne_boot s _
  case hband =>
    intro s k _ _ _ _ _ _
    exact selectBand_seq_ne_boot s k
  case htxdone =>
    intro s _ _ _ hout
    dsimp only
    split_ifs
    · decide
    · exact hout
  case hexpire =>
    intro s _ _ _ _
    rw [State.setSeq_seq]
    split_ifs <;> decide
  case hsetup | henter | hcapture | hpinit | hpadv | hack =>
    intros
    exact fun _ _ => by simp

/-- Settles O3: in `S_BOOT` the guard of `SETUP` holds and its writes are made; `SEQ` in `S_BOOT` after an operation that
began elsewhere leaves `RESET` alone. -/
theorem setupArmsTheFirstConversion : Obligations.SetupArmsTheFirstConversion := by
  constructor
  · intro s hseq
    exact (execSetup_next_iff s _).2 ⟨hseq, rfl⟩
  · intro i s t h hout hboot
    by_contra hreset
    exact exec_staysOutOfBoot h hreset hout hboot

end Sys2Proof.Machine

/-! PROOFS. Encodings: the fields of a sample word, and that the decoder and the encoder are inverse to each other on
the words of SPSEQ (rules R55 to R64). -/

namespace Sys2Proof

/-! ## The fields of a sample word -/

@[simp] theorem sampleBand_sampleWord (k : BandIndex) (sub : BitVec 5) (frac : BitVec 2) :
    sampleBand (sampleWord k sub frac) = k := by
  unfold sampleBand sampleWord
  rw [BitVec.extractLsb'_append_eq_of_le (by decide)]
  exact BitVec.extractLsb'_append_eq_left

@[simp] theorem sampleSub_sampleWord (k : BandIndex) (sub : BitVec 5) (frac : BitVec 2) :
    sampleSub (sampleWord k sub frac) = sub := by
  unfold sampleSub sampleWord
  rw [BitVec.extractLsb'_append_eq_of_le (by decide)]
  exact BitVec.extractLsb'_append_eq_right

@[simp] theorem sampleFrac_sampleWord (k : BandIndex) (sub : BitVec 5) (frac : BitVec 2) :
    sampleFrac (sampleWord k sub frac) = frac := BitVec.extractLsb'_append_eq_right

/-- The three fields are the whole word (rule R56). -/
@[simp] theorem sampleWord_fields (w : Sample) : sampleWord (sampleBand w) (sampleSub w) (sampleFrac w) = w := by
  unfold sampleWord sampleBand sampleSub sampleFrac
  rw [BitVec.extractLsb'_append_extractLsb'_eq_extractLsb' (by decide),
    BitVec.extractLsb'_append_extractLsb'_eq_extractLsb' (by decide)]
  exact BitVec.extractLsb'_eq_self

/-! ## Format S -/

/-- A sample word decodes to the operation of its band, with its other two fields. -/
theorem decodeSample_sampleWord (k : BandIndex) (sub : BitVec 5) (frac : BitVec 2) :
    decodeSample (sampleWord k sub frac) = bandInstr k sub frac := by
  simp [decodeSample]

/-- An index is one of the eight bands. -/
theorem bandIndex_cases (k : BandIndex) : k = 0 ∨ k = 1 ∨ k = 2 ∨ k = 3 ∨ k = 4 ∨ k = 5 ∨ k = 6 ∨ k = 7 := by
  revert k; decide

theorem encode_bandInstr (k : BandIndex) (sub : BitVec 5) (frac : BitVec 2) :
    encode (bandInstr k sub frac) = .formatS (sampleWord k sub frac) := by
  rcases bandIndex_cases k with rfl | rfl | rfl | rfl | rfl | rfl | rfl | rfl <;> rfl

theorem encode_decodeSample (w : Sample) : encode (decodeSample w) = .formatS w := by
  rw [decodeSample, encode_bandInstr, sampleWord_fields]

/-! ## Format Q -/

/-- A code in which an agent of the environment has no row is never accepted. -/
theorem rejectCode_ne_ok (c : SeqCode) (i : Instr) : rejectCode c ≠ .ok i := by
  unfold rejectCode
  split <;> exact nofun

theorem encode_decodeBlock {c : SeqCode} {i : Instr} (h : decodeBlock c = .ok i) : encode i = .formatQ .block c := by
  unfold decodeBlock at h
  split_ifs at h <;> cases h <;> subst c <;> rfl

theorem encode_decodeSeq {a : Agent} {c : SeqCode} {i : Instr} (h : decodeSeq a c = .ok i) :
    encode i = .formatQ a c := by
  cases a with
  | block => exact encode_decodeBlock h
  | resetSource => exact absurd h (rejectCode_ne_ok c i)
  | adc _ | transmitter | timeBase =>
    simp only [decodeSeq] at h
    split_ifs at h with hc
    · cases h
      rw [hc]
      rfl
    · exact absurd h (rejectCode_ne_ok c i)

/-! ## The two directions -/

/-- The decoder gives back what was encoded. -/
theorem decode_encode (i : Instr) : decode (encode i) = .ok i := by
  cases i with
  | band0 sub frac => exact congrArg _ (decodeSample_sampleWord 0 sub frac)
  | band1 sub frac => exact congrArg _ (decodeSample_sampleWord 1 sub frac)
  | band2 sub frac => exact congrArg _ (decodeSample_sampleWord 2 sub frac)
  | band3 sub frac => exact congrArg _ (decodeSample_sampleWord 3 sub frac)
  | band4 sub frac => exact congrArg _ (decodeSample_sampleWord 4 sub frac)
  | band5 sub frac => exact congrArg _ (decodeSample_sampleWord 5 sub frac)
  | band6 sub frac => exact congrArg _ (decodeSample_sampleWord 6 sub frac)
  | band7 sub frac => exact congrArg _ (decodeSample_sampleWord 7 sub frac)
  | setup | enter | complete _ | capture | select | txsend | txdone | pinit | tick | expire | padv | ack | reset => rfl

/-- What the decoder accepts is the encoding of what it answers. -/
theorem encode_of_decode {c : Code} {i : Instr} (h : decode c = .ok i) : encode i = c := by
  cases c with
  | formatS w =>
    cases h
    exact encode_decodeSample w
  | formatQ a c => exact encode_decodeSeq h
  | noWord =>
    cases h
    rfl

/-- Settles O28: the fields of a sample word are read back as they were put in, and each format Q code has its row. -/
theorem decodeOfEncodeIsTheInstruction : Obligations.DecodeOfEncodeIsTheInstruction := decode_encode

/-- Settles O29: the sample word is its three fields, and a code is accepted only in the row that has it. -/
theorem encodeOfDecodeIsTheWord : Obligations.EncodeOfDecodeIsTheWord := fun _ _ => encode_of_decode

/-! ## The words that are accepted -/

/-- The encoded form of an operation is a word of SPSEQ, by the lemmas about each constructor. -/
theorem wf_encode (i : Instr) : (encode i).wf = true := by
  cases i with
  | band0 sub frac => exact Laws.Encoding.band0 sub frac
  | band1 sub frac => exact Laws.Encoding.band1 sub frac
  | band2 sub frac => exact Laws.Encoding.band2 sub frac
  | band3 sub frac => exact Laws.Encoding.band3 sub frac
  | band4 sub frac => exact Laws.Encoding.band4 sub frac
  | band5 sub frac => exact Laws.Encoding.band5 sub frac
  | band6 sub frac => exact Laws.Encoding.band6 sub frac
  | band7 sub frac => exact Laws.Encoding.band7 sub frac
  | complete r => exact Laws.Encoding.complete r
  | setup | enter | capture | select | txsend | txdone | pinit | tick | expire | padv | ack | reset => rfl

/-- Each code in a row of the agent's is accepted. -/
theorem exists_decodeSeq {a : Agent} {c : SeqCode} (h : c ∈ a.codes) : ∃ i, decodeSeq a c = .ok i := by
  cases a <;> simp only [Agent.codes, List.mem_cons, List.not_mem_nil, or_false] at h
  case block =>
    rcases h with rfl | rfl | rfl | rfl | rfl | rfl | rfl | rfl | rfl <;> exact ⟨_, rfl⟩
  case adc | transmitter | timeBase =>
    subst h
    exact ⟨_, rfl⟩

/-- Settles O30: an accepted form is the encoding of an operation, so a word; and each word has its row. -/
theorem decoderAcceptsExactlyTheTablesWords : Obligations.DecoderAcceptsExactlyTheTablesWords := by
  intro c
  constructor
  · rintro ⟨i, h⟩
    rw [← encode_of_decode h]
    exact wf_encode i
  · intro hwf
    cases c with
    | formatS w => exact ⟨_, rfl⟩
    | formatQ a c =>
      simp only [Code.wf, Bool.and_eq_true, List.contains_iff_mem] at hwf
      exact exists_decodeSeq hwf.2
    | noWord => exact ⟨_, rfl⟩

/-- Codes 9 to 15 name no state, so no agent has a row with one (rule R64). -/
theorem decode_reservedCode (a : Agent) {c : SeqCode} (h : 8 < c) :
    decode (.formatQ a c) = .error (.reservedCode c) := by
  have hreject : rejectCode c = .error (.reservedCode c) := if_pos h
  have hne : ∀ d : SeqCode, d ≤ 8 → c ≠ d := fun d hd => by bv_omega
  cases a with
  | block =>
    simp only [decode, decodeSeq, decodeBlock]
    rw [if_neg (hne 0 (by decide)), if_neg (hne 1 (by decide)), if_neg (hne 2 (by decide)),
      if_neg (hne 3 (by decide)), if_neg (hne 4 (by decide)), if_neg (hne 5 (by decide)),
      if_neg (hne 6 (by decide)), if_neg (hne 7 (by decide)), if_neg (hne 8 (by decide))]
  | adc _ | transmitter | timeBase => exact (if_neg (hne _ (by decide))).trans hreject
  | resetSource => exact hreject

/-! ## The rows of format S -/

/-- The rows all have the mask of the field `band`, and the row of an index matches the index in it. -/
theorem sampleRows_getElem? (j : BandIndex) : sampleRows[j.toNat]? = some ⟨0x380, sampleWord j 0 0⟩ := by
  revert j; decide

/-- A mask acts on each field by itself. -/
theorem sampleWord_and_sampleWord (j k : BandIndex) (sub sub' : BitVec 5) (frac frac' : BitVec 2) :
    sampleWord j sub frac &&& sampleWord k sub' frac' = sampleWord (j &&& k) (sub &&& sub') (frac &&& frac') :=
  BitVec.and_append.trans (congrArg (· ++ (frac &&& frac')) BitVec.and_append)

/-- Masking with 0x380 leaves the field `band` alone. -/
theorem and_bandMask (w : Sample) : w &&& 0x380 = sampleWord (sampleBand w) 0 0 := by
  have hmask : (0x380 : Sample) = sampleWord 7 0 0 := by decide
  have hones : ∀ k : BandIndex, k &&& 7 = k := by decide
  calc w &&& 0x380
    _ = sampleWord (sampleBand w) (sampleSub w) (sampleFrac w) &&& sampleWord 7 0 0 := by
      rw [sampleWord_fields, hmask]
    _ = sampleWord (sampleBand w &&& 7) (sampleSub w &&& 0) (sampleFrac w &&& 0) :=
      sampleWord_and_sampleWord ..
    _ = sampleWord (sampleBand w) 0 0 := by
      rw [hones]
      simp

/-- A word selects the row of its band and no other. -/
theorem sampleRow_hits_iff (w : Sample) (j : BandIndex) :
    (⟨0x380, sampleWord j 0 0⟩ : SampleRow).hits w = true ↔ j = sampleBand w := by
  rw [SampleRow.hits, beq_iff_eq, and_bandMask]
  constructor
  · intro h
    simpa using (congrArg sampleBand h).symm
  · rintro rfl
    rfl

/-- Settles O31: the row is that of the word's field `band`. -/
theorem everySampleWordSelectsExactlyOneRow : Obligations.EverySampleWordSelectsExactlyOneRow := by
  intro w
  refine ⟨sampleBand w, ?_, rfl⟩
  intro j row hrow
  rw [sampleRows_getElem?] at hrow
  cases hrow
  exact sampleRow_hits_iff w j

/-- Settles O33: the decoder is evaluated on the seven words. -/
theorem wordsOfTheTableDecode : Obligations.WordsOfTheTableDecode := by
  refine ⟨?_, ?_, ?_, ?_, rfl, rfl, ?_⟩ <;> decide

end Sys2Proof

/-! PROOFS. Operands and tables: the percentage and its distance from the band boundaries, the band of a sample, the
cycle of the phases, the contents of the tables (rules R42 to R44, R55, R61, R74, R87). -/

namespace Sys2Proof.Machine

/-! ## The percentage -/

/-- The percentage of a count written as a number. -/
theorem pct_of_toNat {c : Byte} {n : ℕ} (h : c.toNat = n) : pct c = n * 100 / 255 := by
  rw [pct, h]

/-- A count more is 100/255 percent more. -/
theorem pct_sub_pct {c d : Byte} (h : d.toNat = c.toNat + 1) : pct d - pct c = 20 / 51 := by
  rw [pct_of_toNat h, pct]
  push_cast
  ring

/-- Settles O23: the percentage is linear in the count, and a count is at most 255. -/
theorem percentageRisesFromZeroToHundred : Obligations.PercentageRisesFromZeroToHundred := by
  refine ⟨?_, ?_, pct_mem, fun c d => pct_sub_pct⟩
  · norm_num [pct_of_toNat (c := 0) (n := 0) rfl]
  · norm_num [pct_of_toNat (c := 255) (n := 255) rfl]

/-- The distance from a boundary in steps of 5/102 is a whole number: `12.5 = 255 * 5/102`, and a count is
`8 * 5/102` percent. -/
theorem pct_sub_boundary (c : Byte) (k : ℕ) :
    pct c - 12.5 * k = 5 / 102 * ((8 * c.toNat - 255 * k : ℤ) : ℚ) := by
  unfold pct
  push_cast
  ring

/-- The boundaries inside [0, 100] are not met, for 8 divides no `255 k` with `k` from 1 to 7. -/
theorem boundary_distance (c : Byte) {k : ℕ} (h1 : 1 ≤ k) (h7 : k ≤ 7) : 5 / 102 ≤ |pct c - 12.5 * k| := by
  have hne : (8 * c.toNat - 255 * k : ℤ) ≠ 0 := by omega
  have hone : (1 : ℚ) ≤ |((8 * c.toNat - 255 * k : ℤ) : ℚ)| := by exact_mod_cast Int.one_le_abs hne
  rw [pct_sub_boundary, abs_mul, abs_of_pos (by norm_num)]
  linarith

/-- Settles O24: `boundary_distance`, and the two counts one step of 5/102 away from a boundary. -/
theorem percentageKeepsItsDistanceFromBoundaries : Obligations.PercentageKeepsItsDistanceFromBoundaries := by
  refine ⟨fun c k => boundary_distance c, ?_, ?_⟩
  · norm_num [pct_of_toNat (c := 32) (n := 32) rfl]
  · norm_num [pct_of_toNat (c := 223) (n := 223) rfl, abs_of_neg]

/-- A value nearer to the percentage than 5/102 is on the same side of each boundary. -/
theorem boundary_lt_iff_of_close {c : Byte} {k : ℕ} {p : ℚ} (h1 : 1 ≤ k) (h7 : k ≤ 7) (hp : |p - pct c| < 5 / 102) :
    12.5 * (k : ℚ) < p ↔ 12.5 * (k : ℚ) < pct c := by
  obtain ⟨hlow, hhigh⟩ := abs_lt.1 hp
  rcases le_abs.1 (boundary_distance c h1 h7) with habove | hbelow
  · exact iff_of_true (by linarith) (by linarith)
  · exact iff_of_false (by linarith) (by linarith)

/-- So it is in the range of the same band. -/
theorem inBandRange_of_close {c : Byte} {p : ℚ} (hp : |p - pct c| < 5 / 102) : InBandRange (bandBits c) p := by
  obtain ⟨hlow, hhigh⟩ := inBandRange_pct c
  have hk : (bandBits c).toNat ≤ 7 := Nat.le_of_lt_succ (bandBits c).isLt
  constructor
  · refine or_iff_not_imp_left.2 fun hne => ?_
    exact (boundary_lt_iff_of_close (by bv_omega) hk hp).2 (hlow.resolve_left hne)
  · refine or_iff_not_imp_left.2 fun hne => ?_
    have hlt : (bandBits c).toNat + 1 ≤ 7 := by bv_omega
    have hside := boundary_lt_iff_of_close (k := (bandBits c).toNat + 1) (by omega) hlt hp
    push_cast at hside
    exact not_lt.1 fun habove => absurd (hside.1 habove) (not_lt.2 (hhigh.resolve_left hne))

/-- Settles O25: the format's value is in the range of the percentage's band, on which the cascade answers it. -/
theorem everyQualifyingFormatSelectsTheSameBand : Obligations.EveryQualifyingFormatSelectsTheSameBand := by
  intro f hf c
  exact (bandCascade_eq_iff (f c) _).2 (inBandRange_of_close (hf c))

/-! ## The band of a sample -/

/-- `RAW[9:7]` is `SCALED[7:5]` of the reduced sample (rules R57, R87). -/
@[simp] theorem bandBits_reduceSample (r : Sample) : bandBits (reduceSample r) = sampleBand r := by
  have hband : (sampleBand r).toNat = r.toNat / 128 % 8 := by
    rw [sampleBand, BitVec.extractLsb'_toNat, Nat.shiftRight_eq_div_pow]
  rw [← BitVec.toNat_inj, toNat_bandBits, toNat_reduceSample, hband]
  omega

/-- Settles O27: `bandOf_pct` for the count, and for the reduced sample, whose band bits are those of the sample. -/
theorem bandIsTheTopThreeBits : Obligations.BandIsTheTopThreeBits := by
  constructor
  · intro c
    exact ⟨bandOf_pct c, toNat_bandBits c⟩
  · intro r
    rw [bandOf_pct, bandBits_reduceSample]

/-- The operation of a sample word is the case of its band. -/
theorem exec_decodeSample (w : Sample) (s : State) : exec (decodeSample w) s = bandCase (sampleBand w) s :=
  exec_bandInstr _ _ _ s

/-- Settles O11: the word's band is that of `SCALED`, so its operation makes the writes of `SELECT`. -/
theorem selectRunsTheDecodedSampleWord : Obligations.SelectRunsTheDecodedSampleWord := by
  intro s w hseq hreduce
  refine ⟨s.selectBand (bandBits s.scaled), ?_, (execSelect_next_iff s _).2 ⟨hseq, rfl⟩⟩
  rw [exec_decodeSample, ← bandBits_reduceSample, hreduce]
  exact bandCase_selected s hseq

/-- In `S_SELECT` the case of a band other than that of `SCALED` is refused. -/
theorem bandCase_otherBand {k : BandIndex} {s : State} (hseq : s.seq = Seq.select) (hk : bandBits s.scaled ≠ k) :
    bandCase k s = .refused .otherBand := by
  unfold bandCase
  rw [if_pos ((s.inState_iff _).2 hseq), if_neg hk]

/-- Settles O12: the word's operation is the case of its own band. -/
theorem sampleWordOfAnotherBandIsRefused : Obligations.SampleWordOfAnotherBandIsRefused := by
  intro s w hseq hband
  rw [exec_decodeSample]
  exact bandCase_otherBand hseq hband.symm

/-! ## The phases -/

/-- The phases repeat after four. -/
theorem phaseOf_mod (n : ℕ) : phaseOf (n % 4) = phaseOf n := by
  unfold phaseOf
  rw [Nat.mod_mod]

/-- Each phase is followed by the next: the three shifts and the wrap. -/
theorem nextPhase_phaseOf (n : ℕ) : nextPhase (phaseOf n) = some (phaseOf (n + 1)) := by
  have hfour : ∀ m < 4, nextPhase (phaseOf m) = some (phaseOf (m + 1)) := by decide
  have hsucc : phaseOf (n % 4 + 1) = phaseOf (n + 1) := by
    rw [← phaseOf_mod, ← phaseOf_mod (n + 1), Nat.mod_add_mod]
  rw [← phaseOf_mod, hfour _ (Nat.mod_lt n (by decide)), hsucc]

/-- The values with a successor are the four phases. -/
theorem nextPhase_ne_none_iff (m : Byte) : nextPhase m ≠ none ↔ m = 0x80 ∨ m = 0x40 ∨ m = 0x20 ∨ m = 0x10 := by
  rw [Option.ne_none_iff_exists']
  simp only [nextPhase_eq_some_iff]
  constructor
  · rintro ⟨v, ⟨rfl, -⟩ | ⟨rfl | rfl | rfl, -⟩⟩ <;> simp
  · rintro (rfl | rfl | rfl | rfl)
    · exact ⟨_, .inr ⟨.inl rfl, rfl⟩⟩
    · exact ⟨_, .inr ⟨.inr (.inl rfl), rfl⟩⟩
    · exact ⟨_, .inr ⟨.inr (.inr rfl), rfl⟩⟩
    · exact ⟨_, .inl ⟨rfl, rfl⟩⟩

/-- Settles O21: a value with a successor is one of the phases 0 to 3. -/
theorem phasesFollowEachOtherCyclically : Obligations.PhasesFollowEachOtherCyclically := by
  refine ⟨nextPhase_phaseOf, fun m => ?_⟩
  constructor
  · intro h
    rcases (nextPhase_ne_none_iff m).1 h with rfl | rfl | rfl | rfl
    · exact ⟨0, by decide⟩
    · exact ⟨1, by decide⟩
    · exact ⟨2, by decide⟩
    · exact ⟨3, by decide⟩
  · rintro ⟨n, -, rfl⟩
    rw [nextPhase_phaseOf]
    exact Option.some_ne_none _

/-! ## The tables -/

/-- Settles O22: both tables are evaluated at every index. -/
theorem tablesHoldTheirContents : Obligations.TablesHoldTheirContents := by
  refine ⟨?_, ?_, rfl, rfl⟩ <;> decide

/-- Every entry of `BANDROM` has a legal selector (rules R42, R63). -/
theorem bandRom_msg_legal (k : BandIndex) : (bandRom k).msg ≠ 3 := by
  revert k; decide

/-- The first and the last band alone have a message (rule R42). -/
theorem bandRom_msg_eq_none_iff (k : BandIndex) : (bandRom k).msg = Msg.none ↔ ¬(k = 0 ∨ k = 7) := by
  revert k; decide

/-- A legal selector that is not 0 has a string (rule R43). -/
theorem msg_min_or_max {m : MsgCode} (hlegal : m ≠ 3) (hsome : m ≠ Msg.none) : m = Msg.min ∨ m = Msg.max := by
  revert m; decide

/-! ## Beyond the ranges and outside the guards -/

/-- `COMPLETE` with nothing armed. -/
theorem execComplete_unarmed {s : State} (h : s.armed = false) (r : Sample) :
    exec (.complete r) s = .refused .spuriousCompletion :=
  if_neg (by simp [h])

/-- Settles O59: `ARMED` decides on a completion, and outside `S_EMIT` the guard of `TXDONE` fails. -/
theorem completionsOutsideTheirGuards : Obligations.CompletionsOutsideTheirGuards := by
  constructor
  · intro s r h
    exact execComplete_unarmed h r
  · intro s hseq
    exact (execTxdone_next_iff s s).2 (.inr ⟨fun h => hseq h.1, rfl⟩)

/-- `TXSEND` under its guard with no byte to send. -/
theorem execTxsend_noByte {s : State} (hsend : s.canSend = true) (hbyte : msgByte s.msg s.midx = none) :
    exec .txsend s = .refused .noSuchMessage := by
  change execTxsend s = _
  unfold execTxsend
  rw [if_pos (show enabled .txsend s = true from hsend), hbyte]

/-- Settles O14: the selectors 0 and 3 have no byte at any index. -/
theorem selectorWithoutStringIsRefused : Obligations.SelectorWithoutStringIsRefused := by
  intro s hseq hfree hidx hmsg
  refine execTxsend_noByte (s.canSend_iff.2 ⟨hseq, hfree, hidx⟩) ?_
  rcases hmsg with hmsg | hmsg <;> (rw [hmsg]; rfl)

/-- `PADV` in `S_PADV` with a `MOTOR` without a successor. -/
theorem execPadv_noPhase {s : State} (hseq : s.seq = Seq.padv) (hphase : nextPhase s.motor = none) :
    exec .padv s = .refused .motorNotOneHot := by
  change execPadv s = _
  unfold execPadv
  rw [if_pos (show enabled .padv s = true from (s.inState_iff _).2 hseq), hphase]

/-- From 19 on, `MIDX` does not come to 19 by one step: the width wraps past 31 to 0. -/
theorem succ_ne_msgLen {n : BitVec 5} (h : 19 ≤ n) : n + 1 ≠ msgLen := by
  bv_omega

/-- Settles O60: `TXDONE` and `PADV` count on at the width of their counters, and `PADV` reads `MOTOR` alone to find the
next phase. -/
theorem operationsBeyondTheirRanges : Obligations.OperationsBeyondTheirRanges := by
  intro s
  refine ⟨fun hseq hbusy hidx => ?_, fun hseq _ v hv => ?_, fun hseq h80 h40 h20 h10 => ?_⟩
  · rw [execTxdone_next_iff]
    exact .inl ⟨⟨hseq, hbusy⟩, by rw [if_neg (succ_ne_msgLen hidx)]⟩
  · exact (execPadv_next_iff s _).2 ⟨hseq, v, hv, rfl⟩
  · refine execPadv_noPhase hseq (by_contra fun h => ?_)
    exact ((nextPhase_ne_none_iff s.motor).1 h).elim h80 (·.elim h40 (·.elim h20 h10))

/-- Settles O2: the values are those of `State.reset`, and `SETUP` is run on it. -/
theorem stateAfterReset : Obligations.StateAfterReset := by
  refine ⟨rfl, rfl, rfl, rfl, rfl, rfl, rfl, rfl, rfl, rfl, ?_⟩
  exact ⟨_, (execSetup_next_iff _ _).2 ⟨rfl, rfl⟩, rfl⟩

end Sys2Proof.Machine

/-! PROOFS. The step: what is fetched on each turn, when the block has an enabled operation, and what a step then is
(rules R64, R136, R137, R165). -/

namespace Sys2Proof.Machine

/-! ## The fetch -/

theorem State.fetch_of_resetSource {s : State} (h : s.nextTurn = .resetSource) : s.fetch = .run .reset s.useTurn :=
  if_pos h

theorem State.fetch_of_illegalSeq {s : State} (hturn : s.nextTurn ≠ .resetSource) (hseq : Seq.ack < s.seq) :
    s.fetch = .refuse (.illegalSeq s.seq) :=
  (if_neg hturn).trans (if_pos hseq)

theorem State.fetch_of_illegalMsg {s : State} (hturn : s.nextTurn ≠ .resetSource) (hseq : s.seq ≤ Seq.ack)
    (hmsg : s.msg = 3) : s.fetch = .refuse .illegalMsg :=
  (if_neg hturn).trans ((if_neg (BitVec.not_lt.2 hseq)).trans (if_pos hmsg))

/-- In a state of the machine the turns decide, as the order of steps has it. -/
theorem State.fetch_of_legal {s : State} (hturn : s.nextTurn ≠ .resetSource) (hseq : s.seq ≤ Seq.ack)
    (hmsg : s.msg ≠ 3) : s.fetch = s.fetchOrdered :=
  (if_neg hturn).trans ((if_neg (BitVec.not_lt.2 hseq)).trans (if_neg hmsg))

theorem State.fetchOrdered_zeroTime {s : State} {i : Instr} (hzero : s.zeroTime = true) (hop : s.blockOp = some i) :
    s.fetchOrdered = .run i s := by
  unfold State.fetchOrdered
  rw [hzero, hop]

/-- Where the block does not come first, the turn decides. -/
theorem State.fetchOrdered_turn {s : State} (h : s.zeroTime = false ∨ s.blockOp = none) :
    s.fetchOrdered = s.fetchTurn s.nextTurn := by
  unfold State.fetchOrdered
  rcases h with hfree | hwait
  · rw [hfree]
  · rw [hwait]
    cases s.zeroTime <;> rfl

theorem State.fetchTurn_block_run {s : State} {i : Instr} (h : s.blockOp = some i) :
    s.fetchTurn .block = .run i s.useTurn := by
  unfold State.fetchTurn
  rw [h]

theorem State.fetchTurn_block_pass {s : State} (h : s.blockOp = none) : s.fetchTurn .block = .pass s.useTurn := by
  unfold State.fetchTurn
  rw [h]

theorem State.fetchTurn_adc_run {s : State} (h : s.armed = true) (r : Sample) :
    s.fetchTurn (.adc r) = .run (.complete r) s.useTurn :=
  if_pos h

theorem State.fetchTurn_adc_pass {s : State} (h : s.armed = false) (r : Sample) :
    s.fetchTurn (.adc r) = .pass s.useTurn :=
  if_neg (by simp [h])

/-! ## The step from the fetch -/

theorem step_of_run {s u : State} {i : Instr} (h : s.fetch = .run i u) : step s = exec i u := by
  unfold step
  rw [h]

theorem step_of_pass {s u : State} (h : s.fetch = .pass u) : step s = .next u := by
  unfold step
  rw [h]

theorem step_of_refuse {s : State} {r : Refusal} (h : s.fetch = .refuse r) : step s = .refused r := by
  unfold step
  rw [h]

/-! ## The block's operation -/

/-- The row of the block for `SEQ`, with its guard false: the block waits. -/
theorem State.blockOp_eq_none {s : State} {i : Instr} (hdecode : decode (.formatQ .block s.seq) = .ok i)
    (hguard : enabled i s = false) : s.blockOp = none := by
  rw [Option.eq_none_iff_forall_ne_some]
  intro j hj
  obtain ⟨hdecode', hguard'⟩ := (s.blockOp_eq_some_iff j).1 hj
  cases hdecode.symm.trans hdecode'
  rw [hguard] at hguard'
  cases hguard'

/-- An operation with a format Q code of the block is enabled in no other state than that of its code. -/
theorem seq_of_enabled {i : Instr} {c : SeqCode} {s : State} (hcode : encode i = .formatQ .block c)
    (h : enabled i s = true) : s.seq = c := by
  cases i <;> cases hcode
  case setup | capture | select | pinit | padv | ack => exact (s.inState_iff _).1 h
  case enter => exact (s.canEnter_iff.1 h).1
  case txsend => exact (s.canSend_iff.1 h).1
  case expire => exact (s.canExpire_iff.1 h).1

/-- Such an operation is the block's where its guard holds. -/
theorem State.blockOp_of_enabled {i : Instr} {c : SeqCode} {s : State} (hcode : encode i = .formatQ .block c)
    (h : enabled i s = true) : s.blockOp = some i := by
  rw [s.blockOp_eq_some_iff, seq_of_enabled hcode h, ← hcode]
  exact ⟨decode_encode i, h⟩

/-- In the state of its code the block waits where its guard fails. -/
theorem State.blockOp_eq_none_of_code {i : Instr} {s : State} (hcode : encode i = .formatQ .block s.seq)
    (h : enabled i s = false) : s.blockOp = none :=
  State.blockOp_eq_none (hcode ▸ decode_encode i) h

/-- The block's operation has the code that `SEQ` holds. -/
theorem State.encode_of_blockOp {s : State} {i : Instr} (h : s.blockOp = some i) : encode i = .formatQ .block s.seq :=
  encode_of_decode ((s.blockOp_eq_some_iff i).1 h).1

theorem State.blockOp_ne_reset {s : State} {i : Instr} (h : s.blockOp = some i) : i ≠ .reset := by
  rintro rfl
  exact nomatch s.encode_of_blockOp h

/-! ## The step on each turn -/

theorem step_resetSource {s : State} (h : s.nextTurn = .resetSource) : step s = exec .reset s.useTurn :=
  step_of_run (State.fetch_of_resetSource h)

/-- Under the zero-time reading the block's enabled operation runs before the turn. -/
theorem step_zeroTime {s : State} {i : Instr} (hseq : s.seq ≤ Seq.ack) (hmsg : s.msg ≠ 3)
    (hzero : s.zeroTime = true) (hturn : s.nextTurn ≠ .resetSource) (hop : s.blockOp = some i) : step s = exec i s :=
  step_of_run ((State.fetch_of_legal hturn hseq hmsg).trans (State.fetchOrdered_zeroTime hzero hop))

/-- A state of the machine in which the block does not come before the turn. -/
structure State.AwaitsTurn (s : State) : Prop where
  seqLegal : s.seq ≤ Seq.ack
  msgLegal : s.msg ≠ 3
  order : s.zeroTime = false ∨ s.blockOp = none

namespace State.AwaitsTurn

variable {s : State} (h : s.AwaitsTurn)
include h

theorem fetch_eq {a : Agent} (hturn : s.nextTurn = a) (ha : a ≠ .resetSource) : s.fetch = s.fetchTurn a := by
  rw [State.fetch_of_legal (hturn ▸ ha) h.seqLegal h.msgLegal, State.fetchOrdered_turn h.order, hturn]

theorem step_block_run {i : Instr} (hturn : s.nextTurn = .block) (hop : s.blockOp = some i) :
    step s = exec i s.useTurn :=
  step_of_run ((h.fetch_eq hturn nofun).trans (State.fetchTurn_block_run hop))

theorem step_block_pass (hturn : s.nextTurn = .block) (hop : s.blockOp = none) : step s = .next s.useTurn :=
  step_of_pass ((h.fetch_eq hturn nofun).trans (State.fetchTurn_block_pass hop))

theorem step_adc_run {r : Sample} (hturn : s.nextTurn = .adc r) (harmed : s.armed = true) :
    step s = exec (.complete r) s.useTurn :=
  step_of_run ((h.fetch_eq hturn nofun).trans (State.fetchTurn_adc_run harmed r))

theorem step_adc_pass {r : Sample} (hturn : s.nextTurn = .adc r) (harmed : s.armed = false) :
    step s = .next s.useTurn :=
  step_of_pass ((h.fetch_eq hturn nofun).trans (State.fetchTurn_adc_pass harmed r))

theorem step_transmitter (hturn : s.nextTurn = .transmitter) : step s = exec .txdone s.useTurn :=
  step_of_run (h.fetch_eq hturn nofun)

theorem step_timeBase (hturn : s.nextTurn = .timeBase) : step s = exec .tick s.useTurn :=
  step_of_run (h.fetch_eq hturn nofun)

end State.AwaitsTurn

/-! ## The obligations about the step -/

/-- Settles O32: the decoder has no row for these codes, and the fetch looks at `SEQ` and `MSG` before the turn. -/
theorem reservedCodesAreRefused : Obligations.ReservedCodesAreRefused := by
  refine ⟨fun a c => decode_reservedCode a, ?_, ?_⟩
  · intro s hseq hturn
    exact step_of_refuse (State.fetch_of_illegalSeq hturn hseq)
  · intro s hseq hmsg hturn
    exact step_of_refuse (State.fetch_of_illegalMsg hturn hseq hmsg)

/-- Settles O34: in the free order the block's turn brings its enabled operation, or passes. -/
theorem stepRunsTheDecodedOperation : Obligations.StepRunsTheDecodedOperation := by
  intro s i hseq hmsg hfree hturn hdecode
  have hwait : s.AwaitsTurn := ⟨hseq, hmsg, .inl hfree⟩
  constructor
  · intro hguard
    exact hwait.step_block_run hturn ((s.blockOp_eq_some_iff i).2 ⟨hdecode, hguard⟩)
  · intro hguard
    exact hwait.step_block_pass hturn (State.blockOp_eq_none hdecode hguard)

/-- Settles O35: the premises are those of `State.AwaitsTurn`, whose lemmas give each agent's step. -/
theorem stepGivesTheEnvironmentItsTurn : Obligations.StepGivesTheEnvironmentItsTurn := by
  refine ⟨fun s => step_resetSource, fun s hseq hmsg horder => ?_⟩
  have hwait : s.AwaitsTurn := ⟨hseq, hmsg, horder⟩
  exact ⟨fun r => hwait.step_adc_run, fun r => hwait.step_adc_pass, hwait.step_transmitter, hwait.step_timeBase⟩

/-- Settles O36: `step_zeroTime`. -/
theorem zeroTimeRunsTheBlockFirst : Obligations.ZeroTimeRunsTheBlockFirst := by
  intro s i hseq hmsg hzero hturn hop
  exact step_zeroTime hseq hmsg hzero hturn hop

/-- With no notification pending, or an enable at 0, nothing is deliverable. -/
theorem State.deliverable_eq_false {s : State}
    (h : s.done = false ∨ s.ieG = false ∨ s.ieP = false ∨ s.ieAdc = false) : s.deliverable = false := by
  unfold State.deliverable
  rcases h with h | h | h | h <;> simp [h]

/-- Settles O6: the notification is not deliverable, so the guard of `ENTER`, the block's operation in `S_IDLE`,
fails. -/
theorem notificationWaitsForItsEnables : Obligations.NotificationWaitsForItsEnables := by
  intro s hseq h
  have hguard : enabled .enter s = false := by
    simp [enabled, State.canEnter, State.deliverable_eq_false h]
  have hcode : encode .enter = .formatQ .block s.seq := by rw [hseq]; rfl
  exact ⟨congrArg (fire · _) hguard, State.fetchTurn_block_pass (State.blockOp_eq_none_of_code hcode hguard)⟩

/-! ## Guards -/

/-- An operation of the block outside its guard is refused: `fire`, and the test that `TXSEND` and `PADV` make. -/
theorem exec_of_not_enabled {i : Instr} {c : SeqCode} {s : State} (hcode : encode i = .formatQ .block c)
    (h : enabled i s = false) : exec i s = .refused .notEnabled := by
  cases i <;> cases hcode
  case setup | enter | capture | select | pinit | expire | ack => exact congrArg (fire · _) h
  case txsend | padv => exact if_neg (by simp [h])

/-- Settles O37: the operations of the block test their guards; an operation with a sample word is the one the word
decodes to, a case of `SELECT`. -/
theorem blockOperationsFireOnlyWhenEnabled : Obligations.BlockOperationsFireOnlyWhenEnabled := by
  refine ⟨fun i c s => exec_of_not_enabled, ?_⟩
  intro i w s hcode hseq
  have hi : decodeSample w = i := by
    have hdecode := decode_encode i
    rw [hcode] at hdecode
    exact Except.ok.inj hdecode
  rw [← hi, exec_decodeSample]
  exact bandCase_outside _ s hseq

/-- Settles O38: both are the block's operation in the state. -/
theorem atMostOneBlockOperationIsEnabled : Obligations.AtMostOneBlockOperationIsEnabled := by
  intro i j c d s hi hj heni henj
  exact Option.some_inj.1 ((State.blockOp_of_enabled hi heni).symm.trans (State.blockOp_of_enabled hj henj))

end Sys2Proof.Machine

/-! PROOFS. What operations leave unchanged: the registers of rule R10 and their writers, the moves of `SEQ` (rule
R21), the events (rule R34), and the low bits of a sample (rules R57, R76, R98). -/

namespace Sys2Proof.Machine

/-! ## Writers, moves and events -/

/-- A band operation is the writer `SELECT`. -/
@[simp] theorem writerOf_bandInstr (k : BandIndex) (sub : BitVec 5) (frac : BitVec 2) :
    writerOf (bandInstr k sub frac) = .select := by
  rcases bandIndex_cases k with rfl | rfl | rfl | rfl | rfl | rfl | rfl | rfl <;> rfl

/-- Where `SELECT` goes, by the band as rule R21 has it. -/
theorem selectBand_seq_eq (s : State) (k : BandIndex) :
    (s.selectBand k).seq = if k = 0 ∨ k = 7 then Seq.emit else Seq.pinit := by
  rw [State.selectBand_seq]
  simp only [bandRom_msg_eq_none_iff, ite_not]

/-- An operation leaves every register alone whose writer it is not, and the model's turns, clock and reading. -/
def WritesOnlyItsOwn (i : Instr) (s t : State) : Prop :=
  (∀ x : Reg, writerOf i ≠ .reset → writerOf i ∉ x.writers → x.same s t) ∧
  t.turns = s.turns ∧ t.clock = s.clock ∧ t.zeroTime = s.zeroTime

/-- `SELECT` and its cases write no register but their own. -/
theorem selectBand_same (s : State) (k : BandIndex) {x : Reg} (h : Writer.select ∉ x.writers) :
    x.same s (s.selectBand k) := by
  cases x <;> simp [Reg.same, Reg.writers] at h ⊢

/-- For each effect, register by register: it is unchanged, or the operation stands in its column "written by". -/
theorem exec_writesOnlyItsOwn {i : Instr} {s t : State} (h : exec i s = .next t) : WritesOnlyItsOwn i s t := by
  apply exec_next_cases WritesOnlyItsOwn (h := h)
  case hreset =>
    intro s
    exact ⟨fun _ hreset => absurd rfl hreset, rfl, rfl, rfl⟩
  case hselect =>
    intro s _
    exact ⟨fun _ _ => selectBand_same s _, rfl, rfl, rfl⟩
  case hband =>
    intro s k sub frac _ _
    refine ⟨fun _ _ => ?_, rfl, rfl, rfl⟩
    rw [writerOf_bandInstr]
    exact selectBand_same s k
  all_goals
    intros
    refine ⟨fun x _ => ?_, rfl, rfl, rfl⟩
    cases x <;> simp [Reg.same, Reg.writers, writerOf]

/-- Settles O39: `exec_writesOnlyItsOwn`. -/
theorem registersHaveOnlyTheirWriters : Obligations.RegistersHaveOnlyTheirWriters := fun _ _ _ => exec_writesOnlyItsOwn

/-- `SEQ` is where the transition table of rule R21 says. -/
def MovesByTheTable (i : Instr) (s t : State) : Prop := t.seq = seqAfter s (writerOf i)

/-- The effects write the code of the table's column or leave `SEQ` alone; `SELECT`, `TXDONE` and `EXPIRE` choose
between two codes. -/
theorem exec_movesByTheTable {i : Instr} {s t : State} (h : exec i s = .next t) : MovesByTheTable i s t := by
  apply exec_next_cases MovesByTheTable (h := h)
  case hselect =>
    intro s _
    exact selectBand_seq_eq s _
  case hband =>
    intro s k sub frac _ hk
    rw [MovesByTheTable, writerOf_bandInstr, selectBand_seq_eq, ← hk]
    rfl
  case htxdone =>
    intro s hseq hbusy
    simp [MovesByTheTable, seqAfter, writerOf, hseq, hbusy]
  case htxidle =>
    intro s hout
    have hstay : ¬(s.seq = Seq.emit ∧ s.txBusy = true ∧ s.midx + 1 = msgLen) := fun h => hout ⟨h.1, h.2.1⟩
    exact (if_neg hstay).symm
  all_goals
    intros
    rfl

/-- Settles O40: `exec_movesByTheTable`. -/
theorem seqMovesOnlyByTheTransitionTable : Obligations.SeqMovesOnlyByTheTransitionTable :=
  fun _ _ _ => exec_movesByTheTable

/-- At most one event is emitted, on a port of the operation's own. -/
def EmitsOnItsPort (i : Instr) (s t : State) : Prop :=
  t.trace = s.trace ∨ ∃ e : Event, t.trace = e :: s.trace ∧ writerOf i ∈ e.emittedBy

theorem exec_emitsOnItsPort {i : Instr} {s t : State} (h : exec i s = .next t) : EmitsOnItsPort i s t := by
  apply exec_next_cases EmitsOnItsPort (h := h)
  case hreset | henter | hcomplete | hcapture | htxdone | htxidle | hexpire =>
    intros
    exact .inl rfl
  case hband =>
    intro s k sub frac _ _
    exact .inr ⟨_, rfl, by simp [Event.emittedBy]⟩
  all_goals
    intros
    exact .inr ⟨_, rfl, by simp [Event.emittedBy, writerOf]⟩

/-- Settles O41: `exec_emitsOnItsPort`. -/
theorem eventsComeOnlyFromTheirOperations : Obligations.EventsComeOnlyFromTheirOperations :=
  fun _ _ _ => exec_emitsOnItsPort

/-! ## Samples with the same band bits

`State.withSample s a c` is `s` with another sample in `RAW` and another count in `SCALED`. Every operation but
`COMPLETE` and `CAPTURE` passes the two through, and reads no more of them than the band bits of `SCALED`. -/

/-- `s` with `a` in `RAW` and `c` in `SCALED`. -/
def State.withSample (s : State) (a : Sample) (c : Byte) : State := { s with raw := a, scaled := c }

/-- Two states agree exactly if one is the other with a sample and a count of the same bands. -/
theorem agreesOnBand_iff (s t : State) :
    s.AgreesOnBand t ↔
      ∃ a c, t = s.withSample a c ∧ sampleBand a = sampleBand s.raw ∧ bandBits c = bandBits s.scaled := by
  constructor
  · rintro ⟨heq, hraw, hscaled⟩
    exact ⟨t.raw, t.scaled, heq, hraw, hscaled⟩
  · rintro ⟨a, c, rfl, hraw, hscaled⟩
    exact ⟨rfl, hraw, hscaled⟩

section

variable {s : State} {a : Sample} {c : Byte}

/-- Two answers under one guard agree where their targets do. -/
theorem agreesOnBand_ite {g : Prop} [Decidable g] {x y x' y' : Result} (hx : x.AgreesOnBand x')
    (hy : y.AgreesOnBand y') : Result.AgreesOnBand (if g then x else y) (if g then x' else y') := by
  split
  · exact hx
  · exact hy

/-- So do two under the guard of `fire`. -/
theorem agreesOnBand_fire {g : Bool} {s t : State} (h : s.AgreesOnBand t) :
    Result.AgreesOnBand (fire g s) (fire g t) :=
  agreesOnBand_ite h rfl

variable (ha : sampleBand a = sampleBand s.raw) (hc : bandBits c = bandBits s.scaled)
include ha hc

/-- The case of a band reads the band bits alone. -/
theorem agreesOnBand_bandCase (k : BandIndex) :
    Result.AgreesOnBand (bandCase k s) (bandCase k (s.withSample a c)) := by
  simp only [bandCase, State.withSample, hc]
  exact agreesOnBand_ite (agreesOnBand_ite ⟨rfl, ha, hc⟩ rfl) rfl

/-- An operation answers the same for the same band bits, up to the two registers. -/
theorem agreesOnBand_exec (i : Instr) : Result.AgreesOnBand (exec i s) (exec i (s.withSample a c)) := by
  cases i with
  | band0 _ _ => exact agreesOnBand_bandCase ha hc 0
  | band1 _ _ => exact agreesOnBand_bandCase ha hc 1
  | band2 _ _ => exact agreesOnBand_bandCase ha hc 2
  | band3 _ _ => exact agreesOnBand_bandCase ha hc 3
  | band4 _ _ => exact agreesOnBand_bandCase ha hc 4
  | band5 _ _ => exact agreesOnBand_bandCase ha hc 5
  | band6 _ _ => exact agreesOnBand_bandCase ha hc 6
  | band7 _ _ => exact agreesOnBand_bandCase ha hc 7
  | setup | enter | pinit | expire | ack => exact agreesOnBand_fire ⟨rfl, ha, hc⟩
  | capture => exact agreesOnBand_fire ⟨rfl, ha, by simp [State.withSample, ha]⟩
  | select =>
    have htarget : (s.selectBand (bandBits s.scaled)).AgreesOnBand ((s.withSample a c).selectBand (bandBits c)) := by
      rw [hc]
      exact ⟨rfl, ha, hc⟩
    exact agreesOnBand_fire htarget
  | complete r => exact agreesOnBand_ite ⟨rfl, rfl, hc⟩ rfl
  | txdone | tick => exact agreesOnBand_ite ⟨rfl, ha, hc⟩ ⟨rfl, ha, hc⟩
  | txsend =>
    refine agreesOnBand_ite ?_ rfl
    simp only [State.withSample]
    cases msgByte s.msg s.midx with
    | none => exact rfl
    | some b => exact ⟨rfl, ha, hc⟩
  | padv =>
    refine agreesOnBand_ite ?_ rfl
    simp only [State.withSample]
    cases nextPhase s.motor with
    | none => exact rfl
    | some v => exact ⟨rfl, ha, hc⟩
  | reset => exact ⟨rfl, rfl, rfl⟩

omit ha in
/-- A guard reads the band bits alone. -/
theorem enabled_withSample (i : Instr) : enabled i (s.withSample a c) = enabled i s := by
  cases i with
  | band0 _ _ | band1 _ _ | band2 _ _ | band3 _ _ | band4 _ _ | band5 _ _ | band6 _ _ | band7 _ _ =>
    simp only [enabled, State.withSample, hc]
    rfl
  | _ => rfl

omit ha in
theorem blockOp_withSample : (s.withSample a c).blockOp = s.blockOp := by
  simp only [State.blockOp, enabled_withSample hc]
  rfl

end

theorem State.useTurn_withSample (s : State) (a : Sample) (c : Byte) :
    (s.withSample a c).useTurn = s.useTurn.withSample a c := by
  unfold State.useTurn State.withSample
  cases s.turns <;> rfl

/-- What is fetched, with a sample and a count in the state it carries. -/
def Fetched.withSample (a : Sample) (c : Byte) : Fetched → Fetched
  | .run i s => .run i (s.withSample a c)
  | .pass s => .pass (s.withSample a c)
  | .refuse r => .refuse r

theorem fetchTurn_withSample {s : State} {c : Byte} (a : Sample) (hc : bandBits c = bandBits s.scaled) (g : Agent) :
    (s.withSample a c).fetchTurn g = (s.fetchTurn g).withSample a c := by
  cases g with
  | block =>
    simp only [State.fetchTurn, blockOp_withSample hc, s.useTurn_withSample]
    cases s.blockOp <;> rfl
  | adc r =>
    simp only [State.fetchTurn, s.useTurn_withSample, apply_ite (Fetched.withSample a c)]
    rfl
  | transmitter | timeBase | resetSource =>
    simp only [State.fetchTurn, s.useTurn_withSample]
    rfl

theorem fetchOrdered_withSample {s : State} {c : Byte} (a : Sample) (hc : bandBits c = bandBits s.scaled) :
    (s.withSample a c).fetchOrdered = s.fetchOrdered.withSample a c := by
  have hzero : (s.withSample a c).zeroTime = s.zeroTime := rfl
  unfold State.fetchOrdered
  rw [hzero, blockOp_withSample hc, fetchTurn_withSample a hc]
  cases s.zeroTime <;> cases s.blockOp <;> rfl

/-- The same turn brings the same operation. -/
theorem fetch_withSample {s : State} {c : Byte} (a : Sample) (hc : bandBits c = bandBits s.scaled) :
    (s.withSample a c).fetch = s.fetch.withSample a c := by
  simp only [State.fetch, fetchOrdered_withSample a hc, s.useTurn_withSample, apply_ite (Fetched.withSample a c)]
  rfl

/-- An operation is fetched in the state itself or after the turn is used up. -/
theorem State.fetch_run_state {s u : State} {i : Instr} (h : s.fetch = .run i u) : u = s ∨ u = s.useTurn := by
  rcases s.fetch_run_cases u i h with
    ⟨-, -, hu⟩ | ⟨-, ⟨-, hu⟩ | ⟨r, -, -, -, hu⟩ | ⟨-, -, hu⟩ | ⟨-, -, hu⟩⟩
  · exact .inr hu
  · exact hu
  all_goals exact .inr hu

/-- A step keeps the agreement: it fetches the same operation and runs it in states that agree. -/
theorem agreesOnBand_step {s t : State} (h : s.AgreesOnBand t) : Result.AgreesOnBand (step s) (step t) := by
  obtain ⟨a, c, rfl, ha, hc⟩ := (agreesOnBand_iff s t).1 h
  unfold step
  rw [fetch_withSample a hc]
  cases hf : s.fetch with
  | run i u =>
    have hu : u.raw = s.raw ∧ u.scaled = s.scaled := by
      rcases State.fetch_run_state hf with rfl | rfl <;> simp
    exact agreesOnBand_exec (hu.1 ▸ ha) (hu.2 ▸ hc) i
  | pass u =>
    cases s.fetch_pass_cases u hf
    exact ⟨rfl, by rw [s.useTurn_raw]; exact ha, by rw [s.useTurn_scaled]; exact hc⟩
  | refuse r => exact rfl

/-- Settles O42: a step reads the band bits alone, and two completions leave states that agree. -/
theorem lowSampleBitsHaveNoEffect : Obligations.LowSampleBitsHaveNoEffect := by
  refine ⟨fun s t => agreesOnBand_step, fun s r q harmed hband => ?_⟩
  rw [(execComplete_next_iff r s _).2 ⟨harmed, rfl⟩, (execComplete_next_iff q s _).2 ⟨harmed, rfl⟩]
  exact ⟨rfl, hband.symm, rfl⟩

end Sys2Proof.Machine

/-! PROOFS. The invariant of rule R32, state by state of the sequencer. -/

namespace Sys2Proof.Machine

/-! ## What the invariant says in each state of the sequencer -/

/-- The registers are in their ranges. -/
structure State.Ranges (s : State) : Prop where
  msgLegal : s.msg ≠ 3
  stepRange : s.stepNo ≤ nAdvances
  timerRange : s.timer ≤ s.delay
  midxRange : s.midx ≤ msgLen

/-- The flags inside the handler: a notification was taken, and nothing is armed. -/
structure State.Taken (s : State) : Prop where
  done : s.done = true
  unarmed : s.armed = false
  enables : s.enablesSet

/-- `SELECT` was made for the sample in `SCALED`. -/
structure State.Chosen (s : State) : Prop where
  shown : s.bandShown
  band : s.band = bandBits s.scaled
  msg : s.msg = (bandRom s.band).msg

/-- From `S_PINIT` on: the band is chosen, its message is over, and the transmitter is free. -/
structure State.Revolving (s : State) : Prop where
  ranges : s.Ranges
  taken : s.Taken
  chosen : s.Chosen
  messageOver : s.midx = if s.msg = Msg.none then 0 else msgLen
  txFree : s.txBusy = false

theorem State.revolving_iff (s : State) :
    s.Revolving ↔ s.Ranges ∧ s.Taken ∧ s.Chosen ∧ (s.midx = if s.msg = Msg.none then 0 else msgLen) ∧
      s.txBusy = false :=
  ⟨fun h => ⟨h.ranges, h.taken, h.chosen, h.messageOver, h.txFree⟩, fun ⟨h₁, h₂, h₃, h₄, h₅⟩ => ⟨h₁, h₂, h₃, h₄, h₅⟩⟩

/-- Items 2, 3, 4 and 9, and the exchange of `ARMED` and `DONE` while idle: what is said of the flags. -/
def State.FlagsOk (s : State) : Prop :=
  (s.armed = true → s.seq = Seq.idle ∧ s.done = false) ∧ (s.done = true → s.armed = false) ∧
  (s.inHandler → s.done = true ∧ s.armed = false) ∧ (s.seq = Seq.idle → s.armed = !s.done) ∧
  (s.seq ≠ Seq.boot → s.enablesSet)

/-- The band, the message, the transmitter, the phase and the counters, each in the states it is spoken of. -/
def State.WorkOk (s : State) : Prop :=
  (s.bandChosen → s.Chosen) ∧
  (s.seq = Seq.emit → s.msg ≠ Msg.none ∧ s.midx < msgLen) ∧
  (s.bandChosen → s.seq ≠ Seq.emit → s.midx = if s.msg = Msg.none then 0 else msgLen) ∧
  (s.txBusy = true → s.seq = Seq.emit) ∧
  (s.seq ≠ Seq.hold → s.timer = 0) ∧
  (s.phaseWritten → s.motor = phaseOf s.stepNo.toNat) ∧
  (s.seq = Seq.padv → s.stepNo < nAdvances) ∧ (s.seq = Seq.ack → s.stepNo = nAdvances)

section

variable {s : State}

/-- The invariant in parts. -/
theorem State.inv_iff : s.Inv ↔ s.seq ≤ Seq.ack ∧ s.Ranges ∧ s.FlagsOk ∧ s.WorkOk := by
  constructor
  · intro h
    exact ⟨h.seqLegal, ⟨h.msgLegal, h.stepRange, h.timerRange, h.midxRange⟩,
      ⟨h.armedIdle, h.doneUnarmed, h.handlerPending, h.idleOne, h.enables⟩,
      fun hc => ⟨(h.chosen hc).1, (h.chosen hc).2.1, (h.chosen hc).2.2⟩,
      h.emitting, h.messageOver, h.busyEmits, h.timerRests, h.phase, h.advanceLeft, h.advancesDone⟩
  · rintro ⟨hseq, hranges, ⟨harmed, hdone, hhandler, hidle, henables⟩, hchosen, hemit, hover, hbusy, htimer, hphase,
      hleft, hall⟩
    exact ⟨hseq, hranges.msgLegal, harmed, hdone, hhandler, hphase, hranges.stepRange, hranges.timerRange,
      hranges.midxRange, hbusy, fun hc => ⟨(hchosen hc).shown, (hchosen hc).band, (hchosen hc).msg⟩, henables, hemit,
      htimer, hleft, hall, hover, hidle⟩

theorem State.flagsOk_iff_of_boot (h : s.seq = Seq.boot) : s.FlagsOk ↔ s.armed = false := by
  simp only [State.FlagsOk, State.inHandler, h]
  cases s.armed <;> simp

theorem State.flagsOk_iff_of_idle (h : s.seq = Seq.idle) : s.FlagsOk ↔ (s.armed = !s.done) ∧ s.enablesSet := by
  simp only [State.FlagsOk, State.inHandler, h]
  cases s.armed <;> cases s.done <;> simp

theorem State.flagsOk_iff_of_inHandler (h : s.inHandler) : s.FlagsOk ↔ s.Taken := by
  have hidle : s.seq ≠ Seq.idle := fun e => absurd h.1 (by rw [e]; decide)
  have hboot : s.seq ≠ Seq.boot := fun e => absurd h.1 (by rw [e]; decide)
  constructor
  · rintro ⟨-, -, htaken, -, henables⟩
    exact ⟨(htaken h).1, (htaken h).2, henables hboot⟩
  · rintro ⟨hdone, harmed, henables⟩
    exact ⟨by simp [harmed], fun _ => harmed, fun _ => ⟨hdone, harmed⟩, fun e => absurd e hidle, fun _ => henables⟩

theorem State.inv_iff_of_inHandler (h : s.inHandler) : s.Inv ↔ s.Ranges ∧ s.Taken ∧ s.WorkOk := by
  rw [State.inv_iff, State.flagsOk_iff_of_inHandler h, and_iff_right h.2]

/-- The codes from `S_CAPTURE` to `S_ACK`. -/
theorem State.inHandler_of_seq {c : SeqCode} (h : s.seq = c) (hc : Seq.capture ≤ c ∧ c ≤ Seq.ack := by decide) :
    s.inHandler := by
  rw [State.inHandler, h]
  exact hc

theorem State.inv_iff_of_boot (h : s.seq = Seq.boot) :
    s.Inv ↔ s.Ranges ∧ s.armed = false ∧ s.txBusy = false ∧ s.timer = 0 := by
  simp [State.inv_iff, State.flagsOk_iff_of_boot, State.WorkOk, State.bandChosen, State.phaseWritten, h]

theorem State.inv_iff_of_idle (h : s.seq = Seq.idle) :
    s.Inv ↔ s.Ranges ∧ ((s.armed = !s.done) ∧ s.enablesSet) ∧ s.txBusy = false ∧ s.timer = 0 := by
  simp [State.inv_iff, State.flagsOk_iff_of_idle, State.WorkOk, State.bandChosen, State.phaseWritten, h]

theorem State.inv_iff_of_entered (h : s.seq = Seq.capture ∨ s.seq = Seq.select) :
    s.Inv ↔ s.Ranges ∧ s.Taken ∧ s.txBusy = false ∧ s.timer = 0 := by
  rcases h with h | h <;>
    simp [State.inv_iff_of_inHandler (State.inHandler_of_seq h), State.WorkOk, State.bandChosen, State.phaseWritten, h]

theorem State.inv_iff_of_emit (h : s.seq = Seq.emit) :
    s.Inv ↔ s.Ranges ∧ s.Taken ∧ s.Chosen ∧ (s.msg ≠ Msg.none ∧ s.midx < msgLen) ∧ s.timer = 0 := by
  simp [State.inv_iff_of_inHandler (State.inHandler_of_seq h), State.WorkOk, State.bandChosen, State.phaseWritten, h]

theorem State.inv_iff_of_pinit (h : s.seq = Seq.pinit) : s.Inv ↔ s.Revolving ∧ s.timer = 0 := by
  simp [State.inv_iff_of_inHandler (State.inHandler_of_seq h), State.WorkOk, State.bandChosen, State.phaseWritten, h,
    State.revolving_iff, and_assoc]

theorem State.inv_iff_of_hold (h : s.seq = Seq.hold) :
    s.Inv ↔ s.Revolving ∧ s.motor = phaseOf s.stepNo.toNat := by
  simp [State.inv_iff_of_inHandler (State.inHandler_of_seq h), State.WorkOk, State.bandChosen, State.phaseWritten, h,
    State.revolving_iff, and_assoc]

theorem State.inv_iff_of_padv (h : s.seq = Seq.padv) :
    s.Inv ↔ s.Revolving ∧ s.timer = 0 ∧ s.motor = phaseOf s.stepNo.toNat ∧ s.stepNo < nAdvances := by
  simp [State.inv_iff_of_inHandler (State.inHandler_of_seq h), State.WorkOk, State.bandChosen, State.phaseWritten, h,
    State.revolving_iff, and_assoc]

theorem State.inv_iff_of_ack (h : s.seq = Seq.ack) :
    s.Inv ↔ s.Revolving ∧ s.timer = 0 ∧ s.motor = phaseOf s.stepNo.toNat ∧ s.stepNo = nAdvances := by
  simp [State.inv_iff_of_inHandler (State.inHandler_of_seq h), State.WorkOk, State.bandChosen, State.phaseWritten, h,
    State.revolving_iff, and_assoc]

end

/-! ## The steps of the invariant, one for each effect of an operation -/

/-- A turn that is used up is no register. -/
theorem State.Inv.useTurn {s : State} (h : s.Inv) : s.useTurn.Inv := by
  rw [s.useTurn_eq]
  exact { h with }

/-- The registers that were written none in `State.reset` hold 0 there, which is in every range (log entry 1). -/
theorem ranges_reset : State.reset.Ranges := ⟨by decide, by decide, by decide, by decide⟩

theorem inv_resetBlock (s : State) : s.resetBlock.Inv :=
  (State.inv_iff_of_boot rfl).2 ⟨{ ranges_reset with }, rfl, rfl, rfl⟩

section

variable {s : State}

theorem inv_setup (hseq : s.seq = Seq.boot) (h : s.Inv) : ((s.enableDelivery.arm).setSeq Seq.idle).Inv := by
  obtain ⟨hranges, -, hfree, htimer⟩ := (State.inv_iff_of_boot hseq).1 h
  exact (State.inv_iff_of_idle rfl).2 ⟨{ hranges with }, ⟨rfl, rfl, rfl, rfl⟩, hfree, htimer⟩

theorem inv_takeNotification (hseq : s.seq = Seq.idle) (hdeliverable : s.deliverable = true) (h : s.Inv) :
    s.takeNotification.Inv := by
  obtain ⟨hranges, ⟨harmed, henables⟩, hfree, htimer⟩ := (State.inv_iff_of_idle hseq).1 h
  have hdone : s.done = true := (s.deliverable_iff.1 hdeliverable).1
  rw [hdone] at harmed
  exact (State.inv_iff_of_entered (.inl rfl)).2 ⟨{ hranges with }, ⟨hdone, harmed, henables⟩, hfree, htimer⟩

theorem inv_complete (r : Sample) (harmed : s.armed = true) (h : s.Inv) :
    State.Inv { s with raw := r, armed := false, done := true } := by
  have hseq : s.seq = Seq.idle := (h.armedIdle harmed).1
  obtain ⟨hranges, ⟨-, henables⟩, hfree, htimer⟩ := (State.inv_iff_of_idle hseq).1 h
  exact (State.inv_iff_of_idle (by exact hseq)).2 ⟨{ hranges with }, ⟨rfl, henables⟩, hfree, htimer⟩

theorem inv_capture (hseq : s.seq = Seq.capture) (h : s.Inv) :
    ({ s with scaled := reduceSample s.raw }.setSeq Seq.select).Inv := by
  obtain ⟨hranges, htaken, hfree, htimer⟩ := (State.inv_iff_of_entered (.inl hseq)).1 h
  exact (State.inv_iff_of_entered (.inr rfl)).2 ⟨{ hranges with }, { htaken with }, hfree, htimer⟩

/-- `SELECT` establishes item 8, and with `MIDX = 0` the start of a message or, where there is none, its end. -/
theorem inv_selectBand {k : BandIndex} (hseq : s.seq = Seq.select) (hk : bandBits s.scaled = k) (h : s.Inv) :
    (s.selectBand k).Inv := by
  obtain ⟨hranges, htaken, hfree, htimer⟩ := (State.inv_iff_of_entered (.inr hseq)).1 h
  have hranges' : (s.selectBand k).Ranges :=
    ⟨bandRom_msg_legal k, hranges.stepRange, by simp [htimer, BitVec.le_def], by simp⟩
  have htaken' : (s.selectBand k).Taken := { htaken with }
  have hchosen : (s.selectBand k).Chosen := ⟨⟨rfl, rfl⟩, hk.symm, rfl⟩
  by_cases hmsg : (bandRom k).msg = Msg.none
  · exact (State.inv_iff_of_pinit (if_pos hmsg)).2 ⟨⟨hranges', htaken', hchosen, (if_pos hmsg).symm, hfree⟩, htimer⟩
  · exact (State.inv_iff_of_emit (if_neg hmsg)).2 ⟨hranges', htaken', hchosen, ⟨hmsg, by simp⟩, htimer⟩

theorem inv_txsend (b : Byte) (hseq : s.seq = Seq.emit) (h : s.Inv) :
    ({ s with txBusy := true }.emit (.tx b)).Inv := by
  obtain ⟨hranges, htaken, hchosen, hmsg, htimer⟩ := (State.inv_iff_of_emit hseq).1 h
  exact (State.inv_iff_of_emit (by exact hseq)).2 ⟨{ hranges with }, { htaken with }, { hchosen with }, hmsg, htimer⟩

/-- `TXDONE` goes on to the next byte, or to `S_PINIT` after the last. -/
theorem inv_txdone (hseq : s.seq = Seq.emit) (h : s.Inv) :
    State.Inv { s with
      txBusy := false, midx := s.midx + 1, seq := if s.midx + 1 = msgLen then Seq.pinit else s.seq } := by
  obtain ⟨hranges, htaken, hchosen, ⟨hmsg, hidx⟩, htimer⟩ := (State.inv_iff_of_emit hseq).1 h
  by_cases hlast : s.midx + 1 = msgLen
  · rw [if_pos hlast, hlast]
    exact (State.inv_iff_of_pinit rfl).2
      ⟨⟨{ hranges with midxRange := BitVec.le_refl _ }, { htaken with }, { hchosen with }, (if_neg hmsg).symm, rfl⟩,
        htimer⟩
  · rw [if_neg hlast, hseq]
    have hidx' : s.midx + 1 < msgLen := by bv_omega
    exact (State.inv_iff_of_emit rfl).2
      ⟨{ hranges with midxRange := by bv_omega }, { htaken with }, { hchosen with }, ⟨hmsg, hidx'⟩, htimer⟩

theorem inv_pinit (hseq : s.seq = Seq.pinit) (h : s.Inv) :
    (({ s.writePhase lineHigh with stepNo := 0 }.loadTimer).setSeq Seq.hold).Inv := by
  obtain ⟨⟨hranges, htaken, hchosen, hover, hfree⟩, -⟩ := (State.inv_iff_of_pinit hseq).1 h
  exact (State.inv_iff_of_hold rfl).2
    ⟨⟨⟨hranges.msgLegal, by simp, BitVec.le_refl _, hranges.midxRange⟩, { htaken with }, { hchosen with }, hover,
      hfree⟩, rfl⟩

/-- `PADV` counts the advance and writes the phase of its number. -/
theorem inv_padv {v : Byte} (hseq : s.seq = Seq.padv) (hv : nextPhase s.motor = some v) (h : s.Inv) :
    (({ s.writePhase v with stepNo := s.stepNo + 1 }.loadTimer).setSeq Seq.hold).Inv := by
  obtain ⟨⟨hranges, htaken, hchosen, hover, hfree⟩, -, hphase, hleft⟩ := (State.inv_iff_of_padv hseq).1 h
  have hsucc : (s.stepNo + 1).toNat = s.stepNo.toNat + 1 := by bv_omega
  have hnext : v = phaseOf (s.stepNo.toNat + 1) := by
    rw [hphase, nextPhase_phaseOf] at hv
    exact (Option.some.inj hv).symm
  exact (State.inv_iff_of_hold rfl).2
    ⟨⟨⟨hranges.msgLegal, by simp; bv_omega, BitVec.le_refl _, hranges.midxRange⟩, { htaken with }, { hchosen with },
      hover, hfree⟩, hnext.trans (congrArg phaseOf hsucc.symm)⟩

/-- `EXPIRE` goes on to the next advance, or to `S_ACK` after the last. -/
theorem inv_expire (hseq : s.seq = Seq.hold) (htimer : s.timer = 0) (h : s.Inv) :
    (s.setSeq (if s.stepNo < nAdvances then Seq.padv else Seq.ack)).Inv := by
  obtain ⟨⟨hranges, htaken, hchosen, hover, hfree⟩, hphase⟩ := (State.inv_iff_of_hold hseq).1 h
  have hrevolving (c : SeqCode) : (s.setSeq c).Revolving :=
    ⟨{ hranges with }, { htaken with }, { hchosen with }, hover, hfree⟩
  by_cases hleft : s.stepNo < nAdvances
  · rw [if_pos hleft]
    exact (State.inv_iff_of_padv rfl).2 ⟨hrevolving _, htimer, hphase, hleft⟩
  · rw [if_neg hleft]
    have hall : s.stepNo = nAdvances := BitVec.le_antisymm hranges.stepRange (BitVec.not_lt.1 hleft)
    exact (State.inv_iff_of_ack rfl).2 ⟨hrevolving _, htimer, hphase, hall⟩

theorem inv_tick (hseq : s.seq = Seq.hold) (htimer : s.timer ≠ 0) (h : s.Inv) :
    ({ s with timer := s.timer - 1 }.emit .tickMs).Inv := by
  obtain ⟨⟨hranges, htaken, hchosen, hover, hfree⟩, hphase⟩ := (State.inv_iff_of_hold hseq).1 h
  have hrange : s.timer - 1 ≤ s.delay := by
    have := hranges.timerRange
    bv_omega
  exact (State.inv_iff_of_hold (by exact hseq)).2
    ⟨⟨{ hranges with timerRange := hrange }, { htaken with }, { hchosen with }, hover, hfree⟩, hphase⟩

theorem inv_returnFromHandler (hseq : s.seq = Seq.ack) (h : s.Inv) : s.returnFromHandler.Inv := by
  obtain ⟨⟨hranges, htaken, -, -, hfree⟩, htimer, -, -⟩ := (State.inv_iff_of_ack hseq).1 h
  exact (State.inv_iff_of_idle rfl).2 ⟨{ hranges with }, ⟨rfl, htaken.enables⟩, hfree, htimer⟩

end

/-- An operation keeps the invariant. -/
def KeepsInv (_ : Instr) (s t : State) : Prop := s.Inv → t.Inv

theorem exec_keepsInv {i : Instr} {s t : State} (h : exec i s = .next t) : KeepsInv i s t :=
  exec_next_cases KeepsInv
    (hreset := fun s _ => inv_resetBlock s)
    (hsetup := fun _ => inv_setup)
    (henter := fun _ => inv_takeNotification)
    (hcomplete := fun _ => inv_complete)
    (hcapture := fun _ => inv_capture)
    (hselect := fun _ hseq => inv_selectBand hseq rfl)
    (hband := fun _ _ _ _ => inv_selectBand)
    (htxsend := fun _ b hseq _ _ _ => inv_txsend b hseq)
    (htxdone := fun _ hseq _ => inv_txdone hseq)
    (htxidle := fun _ _ h => h)
    (hpinit := fun _ => inv_pinit)
    (hpadv := fun _ _ => inv_padv)
    (hexpire := fun _ => inv_expire)
    (htick := fun _ => inv_tick)
    (htickidle := fun _ _ h => { h with })
    (hack := fun _ => inv_returnFromHandler)
    i s t h

/-- Settles O43: a step is an operation in the state or after the turn is used up, or uses up the turn alone; and each
effect keeps the invariant. -/
theorem everyStepKeepsTheInvariant : Obligations.EveryStepKeepsTheInvariant := by
  intro s t hinv hstep
  rcases step_next_cases s t hstep with ⟨i, u, hfetch, hexec⟩ | rfl
  · rcases State.fetch_run_state hfetch with rfl | rfl
    · exact exec_keepsInv hexec hinv
    · exact exec_keepsInv hexec hinv.useTurn
  · exact hinv.useTurn

/-- Settles O44: the reset of the block leaves the model's own fields alone, and those of `State.reset` are its own. -/
theorem resetMeetsTheInvariant : Obligations.ResetMeetsTheInvariant := inv_resetBlock State.reset

end Sys2Proof.Machine

/-! PROOFS. What the invariant and the steps other than a reset have for consequences (rules R33, R115, R119, R143,
R145, R146, R174). -/

namespace Sys2Proof.Machine

/-! ## No step stops -/

/-- Under the invariant an operation whose guard holds answers a next state: `TXSEND` has a byte to send, and `PADV` a
phase in `MOTOR`. -/
theorem exec_next_of_enabled {s : State} {i : Instr} (hinv : s.Inv) (h : enabled i s = true) :
    ∃ t, exec i s = .next t := by
  have hband (k : BandIndex) (hk : (s.inState Seq.select && decide (bandBits s.scaled = k)) = true) :
      ∃ t, bandCase k s = .next t := by
    rw [Bool.and_eq_true, decide_eq_true_iff, State.inState_iff] at hk
    exact ⟨_, (bandCase_next_iff k s _).2 ⟨hk.1, hk.2, rfl⟩⟩
  cases i with
  | band0 _ _ => exact hband 0 h
  | band1 _ _ => exact hband 1 h
  | band2 _ _ => exact hband 2 h
  | band3 _ _ => exact hband 3 h
  | band4 _ _ => exact hband 4 h
  | band5 _ _ => exact hband 5 h
  | band6 _ _ => exact hband 6 h
  | band7 _ _ => exact hband 7 h
  | setup | enter | capture | select | pinit | expire | ack => exact ⟨_, (fire_next_iff _ _ _).2 ⟨h, rfl⟩⟩
  | complete r => exact ⟨_, (execComplete_next_iff r s _).2 ⟨h, rfl⟩⟩
  | txsend =>
    obtain ⟨hseq, hfree, hidx⟩ := s.canSend_iff.1 h
    obtain ⟨b, hb⟩ := exists_msgByte (msg_min_or_max hinv.msgLegal (hinv.emitting hseq).1) hidx
    exact ⟨_, (execTxsend_next_iff s _).2 ⟨⟨hseq, hfree, hidx⟩, b, hb, rfl⟩⟩
  | txdone => exact ⟨_, (execTxdone_next_iff s _).2 (.inl ⟨s.canTxDone_iff.1 h, rfl⟩)⟩
  | tick => exact ⟨_, (execTick_next_iff s _).2 (.inl ⟨s.canTick_iff.1 h, rfl⟩)⟩
  | padv =>
    have hseq : s.seq = Seq.padv := (s.inState_iff _).1 h
    have hnext : nextPhase s.motor = some (phaseOf (s.stepNo.toNat + 1)) := by
      rw [hinv.phase (.inr (.inl hseq)), nextPhase_phaseOf]
    exact ⟨_, (execPadv_next_iff s _).2 ⟨hseq, _, hnext, rfl⟩⟩
  | reset => exact ⟨_, (execReset_next_iff s _).2 rfl⟩

/-- `TXDONE` always answers a next state, under its guard or outside it. -/
theorem execTxdone_next (s : State) : ∃ t, exec .txdone s = .next t := by
  by_cases h : s.seq = Seq.emit ∧ s.txBusy = true
  · exact ⟨_, (execTxdone_next_iff s _).2 (.inl ⟨h, rfl⟩)⟩
  · exact ⟨_, (execTxdone_next_iff s _).2 (.inr ⟨h, rfl⟩)⟩

/-- So does `TICK`. -/
theorem execTick_next (s : State) : ∃ t, exec .tick s = .next t := by
  by_cases h : s.seq = Seq.hold ∧ s.timer ≠ 0
  · exact ⟨_, (execTick_next_iff s _).2 (.inl ⟨h, rfl⟩)⟩
  · exact ⟨_, (execTick_next_iff s _).2 (.inr ⟨h, rfl⟩)⟩

/-- A state of the machine is never refused by the fetch. -/
theorem State.fetch_ne_refuse {s : State} (hseq : s.seq ≤ Seq.ack) (hmsg : s.msg ≠ 3) (r : Refusal) :
    s.fetch ≠ .refuse r := by
  by_cases hturn : s.nextTurn = .resetSource
  · rw [State.fetch_of_resetSource hturn]
    exact nofun
  · rw [State.fetch_of_legal hturn hseq hmsg]
    unfold State.fetchOrdered State.fetchTurn
    repeat' split
    all_goals exact nofun

/-- No guard looks at the turns. -/
theorem enabled_useTurn (i : Instr) (s : State) : enabled i s.useTurn = enabled i s := by
  rw [s.useTurn_eq]
  cases i <;> rfl

/-- Settles O45: the fetch refuses no state of the machine, and what it brings is `RESET`, an operation whose guard
holds, or one of the two events that are always taken. -/
theorem noStepStopsUnderTheInvariant : Obligations.NoStepStopsUnderTheInvariant := by
  intro s hinv
  cases hfetch : s.fetch with
  | refuse r => exact absurd hfetch (State.fetch_ne_refuse hinv.seqLegal hinv.msgLegal r)
  | pass u => exact ⟨u, step_of_pass hfetch⟩
  | run i u =>
    rw [step_of_run hfetch]
    have hu : u.Inv := by
      rcases State.fetch_run_state hfetch with rfl | rfl
      · exact hinv
      · exact hinv.useTurn
    rcases s.fetch_run_cases u i hfetch with
      ⟨rfl, -, -⟩ | ⟨-, ⟨hop, hstate⟩ | ⟨r, rfl, -, harmed, rfl⟩ | ⟨rfl, -, -⟩ | ⟨rfl, -, -⟩⟩
    · exact ⟨_, (execReset_next_iff u _).2 rfl⟩
    · refine exec_next_of_enabled hu ?_
      have hguard := ((s.blockOp_eq_some_iff i).1 hop).2
      rcases hstate with rfl | rfl
      · exact hguard
      · exact (enabled_useTurn i s).trans hguard
    · exact exec_next_of_enabled hu (s.useTurn_armed.trans harmed)
    · exact execTxdone_next u
    · exact execTick_next u

/-! ## Steps other than a reset -/

/-- Everything a step on another turn than the reset source's can have done: an operation other than `RESET`, in the
state itself or after the turn is used up, or the turn used up and nothing else. -/
theorem step_cases_of_not_reset {s t : State} (hturn : s.nextTurn ≠ .resetSource) (h : step s = .next t) :
    (∃ i u, i ≠ .reset ∧ (u = s ∨ u = s.useTurn) ∧ exec i u = .next t) ∨ t = s.useTurn := by
  rcases step_next_cases s t h with ⟨i, u, hfetch, hexec⟩ | ht
  · refine .inl ⟨i, u, ?_, State.fetch_run_state hfetch, hexec⟩
    rcases s.fetch_run_cases u i hfetch with
      ⟨-, hreset, -⟩ | ⟨-, ⟨hop, -⟩ | ⟨r, rfl, -⟩ | ⟨rfl, -⟩ | ⟨rfl, -⟩⟩
    · exact absurd hreset hturn
    · exact State.blockOp_ne_reset hop
    all_goals exact nofun
  · exact .inr ht

/-- A property of the registers that every operation but `RESET` keeps is kept by every step but a reset. -/
theorem step_keeps_of_not_reset (P : State → Prop) (huse : ∀ s : State, P s → P s.useTurn)
    (hexec : ∀ (i : Instr) (s t : State), exec i s = .next t → i ≠ .reset → P s → P t) {s t : State}
    (hturn : s.nextTurn ≠ .resetSource) (hstep : step s = .next t) (hs : P s) : P t := by
  rcases step_cases_of_not_reset hturn hstep with ⟨i, u, hi, rfl | rfl, h⟩ | rfl
  · exact hexec i u t h hi hs
  · exact hexec i _ t h hi (huse s hs)
  · exact huse s hs

/-- A relation to the next state that does not look at the turns, and that holds of every operation but `RESET` and of
a state to itself, holds of every step but a reset. -/
theorem step_rel_of_not_reset (R : State → State → Prop) {s t : State} (hblind : R s.useTurn t → R s t)
    (hrefl : R s.useTurn s.useTurn) (hexec : ∀ (i : Instr) (u : State), exec i u = .next t → i ≠ .reset → R u t)
    (hturn : s.nextTurn ≠ .resetSource) (hstep : step s = .next t) : R s t := by
  rcases step_cases_of_not_reset hturn hstep with ⟨i, u, hi, rfl | rfl, h⟩ | rfl
  · exact hexec i u h hi
  · exact hblind (hexec i _ h hi)
  · exact hblind hrefl

/-! ## The selected band and the motor lines -/

/-- An operation other than `RESET` keeps LED, DELAY and BAND in agreement. -/
def KeepsSelected (i : Instr) (s t : State) : Prop := i ≠ .reset → s.Selected → t.Selected

/-- `SELECT` makes them agree, whatever they were. -/
theorem selected_selectBand {s : State} {k : BandIndex} (hk : bandBits s.scaled = k) : (s.selectBand k).Selected :=
  ⟨⟨rfl, rfl⟩, fun _ => hk.symm⟩

/-- In a state other than `S_SELECT`, `BAND` is that of `SCALED`. -/
theorem State.Selected.band_eq {s : State} {c : SeqCode} (h : s.Selected) (hseq : s.seq = c)
    (hc : c ≠ Seq.select := by decide) : s.band = bandBits s.scaled :=
  h.2 (hseq ▸ hc)

/-- `CAPTURE` writes `SCALED` and goes to `S_SELECT`, where `BAND` need not match it; the others are
`SELECT`'s alone. -/
theorem exec_keepsSelected {i : Instr} {s t : State} (h : exec i s = .next t) : KeepsSelected i s t := by
  apply exec_next_cases KeepsSelected (h := h)
  case hreset =>
    intro s hreset
    exact absurd rfl hreset
  case hcapture =>
    intro s _ _ hs
    exact ⟨hs.1, fun hne => absurd rfl hne⟩
  case hselect =>
    intro s _ _ _
    exact selected_selectBand rfl
  case hband =>
    intro s k _ _ _ hk _ _
    exact selected_selectBand hk
  case hcomplete | htxsend | htxidle | htick | htickidle =>
    intros
    exact fun _ hs => hs
  case hsetup | hpinit | hack =>
    intro s hseq _ hs
    exact ⟨hs.1, fun _ => hs.band_eq hseq⟩
  case henter | htxdone | hexpire =>
    intro s hseq _ _ hs
    exact ⟨hs.1, fun _ => hs.band_eq hseq⟩
  case hpadv =>
    intro s v hseq _ _ hs
    exact ⟨hs.1, fun _ => hs.band_eq hseq⟩

/-- Settles O46: `SELECT` makes the registers agree, and no operation but `RESET` parts them. -/
theorem selectedBandIsKeptUntilReset : Obligations.SelectedBandIsKeptUntilReset := by
  constructor
  · intro s hseq
    exact ⟨_, (execSelect_next_iff s _).2 ⟨hseq, rfl⟩, selected_selectBand rfl⟩
  · intro s t hs hturn hstep
    refine step_keeps_of_not_reset State.Selected (fun s hs => ?_) (fun _ _ _ => exec_keepsSelected) hturn hstep hs
    rw [s.useTurn_eq]
    exact hs

/-- An operation other than `RESET` leaves `MOTOR` at a phase. -/
def KeepsPhase (i : Instr) (s t : State) : Prop := i ≠ .reset → nextPhase s.motor ≠ none → nextPhase t.motor ≠ none

/-- `PINIT` writes the first phase, `PADV` the successor of a phase, which is one; no other operation writes `MOTOR`. -/
theorem exec_keepsPhase {i : Instr} {s t : State} (h : exec i s = .next t) : KeepsPhase i s t := by
  apply exec_next_cases KeepsPhase (h := h)
  case hreset =>
    intro s hreset
    exact absurd rfl hreset
  case hpinit =>
    intro s _ _ _
    exact (nextPhase_ne_none_iff lineHigh).2 (.inl rfl)
  case hpadv =>
    intro s v _ hv _ _
    refine (nextPhase_ne_none_iff v).2 ?_
    rcases (nextPhase_eq_some_iff s.motor v).1 hv with ⟨hm, hv⟩ | ⟨hm | hm | hm, hv⟩ <;> simp [hv, hm]
  all_goals
    intros
    exact fun _ hs => hs

/-- Settles O47: `MOTOR` has a successor exactly if it is one of the four phases. -/
theorem exactlyOneMotorLineStaysActive : Obligations.ExactlyOneMotorLineStaysActive := by
  refine ⟨fun s hseq => ?_, fun s t hs hturn hstep => ?_, fun m => (nextPhase_ne_none_iff m).1⟩
  · exact ⟨_, (execPinit_next_iff s _).2 ⟨hseq, rfl⟩, (nextPhase_ne_none_iff lineHigh).2 (.inl rfl)⟩
  · refine step_keeps_of_not_reset (fun s => nextPhase s.motor ≠ none) (fun s hs => ?_) (fun _ _ _ => exec_keepsPhase)
      hturn hstep hs
    rw [s.useTurn_motor]
    exact hs

/-! ## Consequences of the invariant in a state -/

/-- Outside a state, the guards of that state's operations fail. -/
theorem State.canTxDone_eq_false {s : State} (h : s.seq ≠ Seq.emit) : s.canTxDone = false :=
  Bool.eq_false_iff.2 fun hguard => h (s.canTxDone_iff.1 hguard).1

theorem State.canTick_eq_false {s : State} (h : s.seq ≠ Seq.hold) : s.canTick = false :=
  Bool.eq_false_iff.2 fun hguard => h (s.canTick_iff.1 hguard).1

/-- Settles O48: each of the three conditions holds in its own state alone: a conversion is armed in `S_IDLE`. -/
theorem externalEventsNeverCompete : Obligations.ExternalEventsNeverCompete := by
  intro s hinv
  have harmed (c : SeqCode) (hc : c ≠ Seq.idle) (hseq : s.seq = c) : s.armed = false :=
    Bool.eq_false_iff.2 fun h => hc (hseq.symm.trans (hinv.armedIdle h).1)
  refine ⟨fun h => ?_, fun h => ?_, fun h => ?_⟩
  · have hseq : s.seq = Seq.idle := (hinv.armedIdle h).1
    exact ⟨State.canTxDone_eq_false (by rw [hseq]; decide), State.canTick_eq_false (by rw [hseq]; decide)⟩
  · have hseq : s.seq = Seq.emit := (s.canTxDone_iff.1 h).1
    exact ⟨harmed _ (by decide) hseq, State.canTick_eq_false (by rw [hseq]; decide)⟩
  · have hseq : s.seq = Seq.hold := (s.canTick_iff.1 h).1
    exact ⟨harmed _ (by decide) hseq, State.canTxDone_eq_false (by rw [hseq]; decide)⟩

/-- Settles O49: of the nine codes all but 0 and 1 are the handler's. -/
theorem busyShowsTheHandler : Obligations.BusyShowsTheHandler := by
  intro s hseq
  have hcodes : ∀ c ≤ Seq.ack, (c ≠ Seq.idle ∧ c ≠ Seq.boot) ↔ Seq.capture ≤ c ∧ c ≤ Seq.ack := by decide
  rw [State.inHandler, ← hcodes s.seq hseq]
  simp [State.busy]

/-- Settles O52: the invariant in `S_ACK` gives the values, and the return writes none of them but the flags. -/
theorem ackReachesTheQuiescentPoint : Obligations.AckReachesTheQuiescentPoint := by
  intro s hinv hseq
  obtain ⟨⟨-, -, hchosen, hover, hfree⟩, htimer, hphase, hall⟩ := (State.inv_iff_of_ack hseq).1 hinv
  have hmotor : s.motor = 0x80 := by
    rw [hphase, hall]
    rfl
  exact ⟨_, (execAck_next_iff s _).2 ⟨hseq, rfl⟩, ⟨rfl, rfl⟩, rfl, hfree, hmotor, hall, htimer, hchosen.shown.1, hover⟩

/-! ## Inside the handler -/

/-- What a step inside the handler does to `RAW`, the flags and `SEQ` (rules R145, R168). -/
def StaysInHandler (s t : State) : Prop :=
  t.raw = s.raw ∧
  ((t.inHandler ∧ Seq.capture < t.seq ∨ t.seq = s.seq) ∧ t.done = true ∧ t.armed = false ∨
   s.seq = Seq.ack ∧ t.seq = Seq.idle ∧ t.done = false ∧ t.armed = true)

/-- It does so where the handler has its flags. -/
def StaysIfInHandler (s t : State) : Prop := s.inHandler → s.done = true ∧ s.armed = false → StaysInHandler s t

/-- A move to a later state of the handler. -/
theorem StaysInHandler.of_move {s t : State} {c : SeqCode} (hseq : t.seq = c) (hraw : t.raw = s.raw)
    (hflags : t.done = true ∧ t.armed = false) (hc : Seq.capture < c ∧ c ≤ Seq.ack := by decide) :
    StaysInHandler s t := by
  have hlt : Seq.capture < t.seq := hseq ▸ hc.1
  exact ⟨hraw, .inl ⟨.inl ⟨⟨BitVec.le_of_lt hlt, hseq ▸ hc.2⟩, hlt⟩, hflags⟩⟩

/-- An operation that leaves `SEQ` alone. -/
theorem StaysInHandler.of_stay {s t : State} (hseq : t.seq = s.seq) (hraw : t.raw = s.raw)
    (hflags : t.done = true ∧ t.armed = false) : StaysInHandler s t :=
  ⟨hraw, .inl ⟨.inr hseq, hflags⟩⟩

/-- `SELECT` goes to `S_EMIT` or to `S_PINIT`. -/
theorem staysInHandler_selectBand {s : State} (k : BandIndex) (hflags : s.done = true ∧ s.armed = false) :
    StaysInHandler s (s.selectBand k) := by
  by_cases hmsg : (bandRom k).msg = Msg.none
  · exact .of_move (if_pos hmsg) rfl hflags
  · exact .of_move (if_neg hmsg) rfl hflags

theorem State.not_inHandler {s : State} {c : SeqCode} (hseq : s.seq = c)
    (hc : ¬(Seq.capture ≤ c ∧ c ≤ Seq.ack) := by decide) : ¬ s.inHandler := by
  rwa [State.inHandler, hseq]

/-- `SETUP`, `ENTER` and `COMPLETE` are taken outside the handler or with a conversion armed, and of the other
operations `ACK` alone leaves it. -/
theorem exec_staysInHandler {i : Instr} {s t : State} (h : exec i s = .next t) : i ≠ .reset → StaysIfInHandler s t := by
  apply exec_next_cases (fun i s t => i ≠ .reset → StaysIfInHandler s t) (h := h)
  case hreset =>
    intro s hreset
    exact absurd rfl hreset
  case hsetup =>
    intro s hseq _ hin
    exact absurd hin (State.not_inHandler hseq)
  case henter =>
    intro s hseq _ _ hin
    exact absurd hin (State.not_inHandler hseq)
  case hcomplete =>
    intro s r harmed _ _ hflags
    rw [harmed] at hflags
    cases hflags.2
  case hack =>
    intro s hseq _ _ _
    exact ⟨rfl, .inr ⟨hseq, rfl, rfl, rfl⟩⟩
  case hselect =>
    intro s _ _ _ hflags
    exact staysInHandler_selectBand _ hflags
  case hband =>
    intro s k _ _ _ _ _ _ hflags
    exact staysInHandler_selectBand k hflags
  case htxdone =>
    intro s _ _ _ _ hflags
    by_cases hlast : s.midx + 1 = msgLen
    · exact .of_move (if_pos hlast) rfl hflags
    · exact .of_stay (if_neg hlast) rfl hflags
  case hexpire =>
    intro s _ _ _ _ hflags
    by_cases hleft : s.stepNo < nAdvances
    · exact .of_move (if_pos hleft) rfl hflags
    · exact .of_move (if_neg hleft) rfl hflags
  case hcapture =>
    intro s _ _ _ hflags
    exact .of_move (c := Seq.select) rfl rfl hflags
  case hpinit | hpadv =>
    intros
    exact fun _ hflags => .of_move (c := Seq.hold) rfl rfl hflags
  case htxsend | htxidle | htick | htickidle =>
    intros
    exact fun _ hflags => .of_stay rfl rfl hflags

/-- Settles O50: the invariant gives the flags of the handler, and a passing turn leaves all of it alone. -/
theorem handlerIsNotReentered : Obligations.HandlerIsNotReentered := by
  intro s t hinv hin hturn hstep
  refine step_rel_of_not_reset StaysIfInHandler (fun h => ?_) (fun _ hflags => .of_stay rfl rfl hflags)
    (fun i u => exec_staysInHandler) hturn hstep hin (hinv.handlerPending hin)
  simpa only [StaysIfInHandler, StaysInHandler, State.inHandler, State.useTurn_raw, State.useTurn_seq,
    State.useTurn_done, State.useTurn_armed] using h

/-! ## During a revolution -/

/-- From `PINIT` to the last `EXPIRE`. -/
def State.inRevolution (s : State) : Prop := s.seq = Seq.pinit ∨ s.seq = Seq.hold ∨ s.seq = Seq.padv

/-- What a step during a revolution leaves alone, and where it goes (rule R119). -/
def RevolutionFrame (s t : State) : Prop :=
  t.led = s.led ∧ t.band = s.band ∧ t.delay = s.delay ∧ t.scaled = s.scaled ∧ t.raw = s.raw ∧
  t.msg = s.msg ∧ t.midx = s.midx ∧ s.armed = false ∧ t.armed = false ∧ t.done = s.done ∧ t.txBusy = s.txBusy ∧
  t.ieG = s.ieG ∧ t.ieP = s.ieP ∧ t.ieAdc = s.ieAdc ∧ (t.seq = s.seq ∨ t.phaseWritten) ∧
  (t.trace = s.trace ∨ t.trace = Event.tickMs :: s.trace ∨ ∃ v, t.trace = Event.motor v :: s.trace)

/-- It does so with nothing armed. -/
def FramesRevolution (s t : State) : Prop := s.inRevolution → s.armed = false → RevolutionFrame s t

theorem State.not_inRevolution {s : State} {c : SeqCode} (hseq : s.seq = c)
    (hc : ¬(c = Seq.pinit ∨ c = Seq.hold ∨ c = Seq.padv) := by decide) : ¬ s.inRevolution := by
  rwa [State.inRevolution, hseq]

/-- It is enough that no other registers are written, beside the model's own fields. -/
theorem RevolutionFrame.of_eq {s t : State} (hunarmed : s.armed = false)
    (heq : t = { s with motor := t.motor, stepNo := t.stepNo, timer := t.timer, seq := t.seq, trace := t.trace })
    (hseq : t.seq = s.seq ∨ t.phaseWritten)
    (htrace : t.trace = s.trace ∨ t.trace = Event.tickMs :: s.trace ∨ ∃ v, t.trace = Event.motor v :: s.trace) :
    RevolutionFrame s t := by
  rw [RevolutionFrame, heq]
  exact ⟨rfl, rfl, rfl, rfl, rfl, rfl, rfl, hunarmed, hunarmed, rfl, rfl, rfl, rfl, rfl, hseq, htrace⟩

/-- The operations of a revolution write `MOTOR`, `STEP`, `TIMER` and `SEQ` alone; the others are not taken in its
states, or have no effect there. -/
theorem exec_framesRevolution {i : Instr} {s t : State} (h : exec i s = .next t) :
    i ≠ .reset → FramesRevolution s t := by
  apply exec_next_cases (fun i s t => i ≠ .reset → FramesRevolution s t) (h := h)
  case hreset =>
    intro s hreset
    exact absurd rfl hreset
  case hcomplete =>
    intro s r harmed _ _ hunarmed
    rw [harmed] at hunarmed
    cases hunarmed
  case hpinit =>
    intro s _ _ _ hunarmed
    exact .of_eq hunarmed rfl (.inr (.inl rfl)) (.inr (.inr ⟨_, rfl⟩))
  case hpadv =>
    intro s v _ _ _ _ hunarmed
    exact .of_eq hunarmed rfl (.inr (.inl rfl)) (.inr (.inr ⟨_, rfl⟩))
  case hexpire =>
    intro s _ _ _ _ hunarmed
    refine .of_eq hunarmed rfl (.inr (.inr ?_)) (.inl rfl)
    rw [State.setSeq_seq]
    split
    · exact .inl rfl
    · exact .inr rfl
  case htxidle =>
    intro s _ _ _ hunarmed
    exact .of_eq hunarmed rfl (.inl rfl) (.inl rfl)
  case htick | htickidle =>
    intros
    exact fun _ hunarmed => .of_eq hunarmed rfl (.inl rfl) (.inr (.inl rfl))
  case hsetup | hcapture | hselect | hack =>
    intro s hseq _ hrev
    exact absurd hrev (State.not_inRevolution hseq)
  case henter | htxdone =>
    intro s hseq _ _ hrev
    exact absurd hrev (State.not_inRevolution hseq)
  case hband =>
    intro s k sub frac hseq _ _ hrev
    exact absurd hrev (State.not_inRevolution hseq)
  case htxsend =>
    intro s b hseq _ _ _ _ hrev
    exact absurd hrev (State.not_inRevolution hseq)

/-- Settles O51: the states of a revolution are the handler's, so nothing is armed in them. -/
theorem revolutionBlocksEverythingElse : Obligations.RevolutionBlocksEverythingElse := by
  intro s t hinv hrev hturn hstep
  have hin : s.inHandler := by
    rcases hrev with hseq | hseq | hseq <;> exact State.inHandler_of_seq hseq
  refine step_rel_of_not_reset FramesRevolution (fun h => ?_) (fun _ hunarmed => ?_)
    (fun i u => exec_framesRevolution) hturn hstep hrev (hinv.handlerPending hin).2
  · rw [s.useTurn_eq] at h
    exact h
  · exact .of_eq hunarmed rfl (.inl rfl) (.inl rfl)

end Sys2Proof.Machine

/-! PROOFS. Waits: what passes while the block waits for an agent of the environment, and that the fair agents end the
waits (rules R102, R105, R129, R139). -/

namespace Sys2Proof.Machine

/-! ## The three waits -/

section

variable {s : State}

/-- In `S_IDLE` with no notification pending the block has no operation. -/
theorem State.blockOp_idle (hseq : s.seq = Seq.idle) (hdone : s.done = false) : s.blockOp = none := by
  refine State.blockOp_eq_none_of_code (i := .enter) (by rw [hseq]; rfl) ?_
  simp [enabled, State.canEnter, State.deliverable_eq_false (.inl hdone)]

/-- Nor has it in `S_EMIT` with a byte in the transmitter. -/
theorem State.blockOp_emit (hseq : s.seq = Seq.emit) (hbusy : s.txBusy = true) : s.blockOp = none := by
  refine State.blockOp_eq_none_of_code (i := .txsend) (by rw [hseq]; rfl) ?_
  simp [enabled, State.canSend, hbusy]

/-- Nor in `S_HOLD` with ticks left. -/
theorem State.blockOp_hold (hseq : s.seq = Seq.hold) (htimer : s.timer ≠ 0) : s.blockOp = none := by
  refine State.blockOp_eq_none_of_code (i := .expire) (by rw [hseq]; rfl) ?_
  exact Bool.eq_false_iff.2 fun hguard => htimer (s.canExpire_iff.1 hguard).2

theorem State.awaitsTurn_idle (hseq : s.seq = Seq.idle) (hdone : s.done = false) (hmsg : s.msg ≠ 3) : s.AwaitsTurn :=
  ⟨by rw [hseq]; decide, hmsg, .inr (State.blockOp_idle hseq hdone)⟩

theorem State.awaitsTurn_emit (hseq : s.seq = Seq.emit) (hbusy : s.txBusy = true) (hmsg : s.msg ≠ 3) : s.AwaitsTurn :=
  ⟨by rw [hseq]; decide, hmsg, .inr (State.blockOp_emit hseq hbusy)⟩

theorem State.awaitsTurn_hold (hseq : s.seq = Seq.hold) (htimer : s.timer ≠ 0) (hmsg : s.msg ≠ 3) : s.AwaitsTurn :=
  ⟨by rw [hseq]; decide, hmsg, .inr (State.blockOp_hold hseq htimer)⟩

end

/-! ## A hold -/

section

variable {s : State} {rest : List Agent}

/-- A tick of a hold. -/
theorem step_hold (hseq : s.seq = Seq.hold) (htimer : s.timer ≠ 0) (hmsg : s.msg ≠ 3)
    (hturns : s.turns = .timeBase :: rest) :
    step s = .next { s with timer := s.timer - 1, turns := rest, trace := .tickMs :: s.trace } := by
  rw [(State.awaitsTurn_hold hseq htimer hmsg).step_timeBase (s.nextTurn_cons _ _ hturns), s.useTurn_cons _ _ hturns]
  exact (execTick_next_iff _ _).2 (.inl ⟨⟨hseq, htimer⟩, rfl⟩)

end

/-- A mark more in front of the marks. -/
theorem replicate_append_cons {α : Type} (n : ℕ) (a : α) (l : List α) :
    List.replicate n a ++ a :: l = List.replicate (n + 1) a ++ l := by
  rw [List.replicate_succ', List.append_assoc, List.singleton_append]

/-- A hold of `n` ticks, by induction on the ticks left. -/
theorem run_hold (n : ℕ) (s : State) (rest : List Agent) (hn : s.timer.toNat = n) (hseq : s.seq = Seq.hold)
    (hmsg : s.msg ≠ 3) (hturns : s.turns = List.replicate n Agent.timeBase ++ rest) :
    core.run n s = .next { s with
      timer := 0, turns := rest, trace := List.replicate n Event.tickMs ++ s.trace } := by
  induction n generalizing s with
  | zero =>
    have htimer : s.timer = 0 := BitVec.eq_of_toNat_eq hn
    have hrest : s.turns = rest := hturns
    rw [run_zero, ← hrest, ← htimer]
    rfl
  | succ n ih =>
    have htimer : s.timer ≠ 0 := by bv_omega
    have hleft : (s.timer - 1).toNat = n := Nat.succ.inj ((toNat_sub_one_add_one htimer).trans hn)
    have hrest := ih { s with timer := s.timer - 1, turns := _, trace := .tickMs :: s.trace } hleft hseq hmsg rfl
    refine ((run_succ n s _ (step_hold hseq htimer hmsg hturns)).trans hrest).trans ?_
    exact congrArg (fun trace => Host.Outcome.next { s with timer := 0, turns := rest, trace := trace })
      (replicate_append_cons n _ _)

/-- Settles O53: `run_hold`. -/
theorem holdLastsExactlyItsTicks : Obligations.HoldLastsExactlyItsTicks :=
  fun s rest hseq hmsg hturns => run_hold s.timer.toNat s rest rfl hseq hmsg hturns

/-! ## A transmitter that is silent -/

/-- The turns come down to `rest`, and `es` are put in front of the trace; no register changes. -/
def State.passing (s : State) (rest : List Agent) (es : List Event) : State :=
  { s with turns := rest, trace := es ++ s.trace }

/-- The marks that a turn leaves where the tick has no other effect. -/
def ticksOf (a : Agent) : List Event := if a = .timeBase then [.tickMs] else []

/-- The block's turn passes. -/
theorem State.AwaitsTurn.step_block_passing {s : State} {rest : List Agent} (h : s.AwaitsTurn)
    (hop : s.blockOp = none) (hturns : s.turns = .block :: rest) : step s = .next (s.passing rest []) := by
  rw [h.step_block_pass (s.nextTurn_cons _ _ hturns) hop, s.useTurn_cons _ _ hturns]
  rfl

/-- With nothing armed the ADC's turn passes. -/
theorem State.AwaitsTurn.step_adc_passing {s : State} {r : Sample} {rest : List Agent} (h : s.AwaitsTurn)
    (harmed : s.armed = false) (hturns : s.turns = .adc r :: rest) : step s = .next (s.passing rest []) := by
  rw [h.step_adc_pass (s.nextTurn_cons _ _ hturns) harmed, s.useTurn_cons _ _ hturns]
  rfl

/-- Outside `S_EMIT` the transmitter's turn passes. -/
theorem State.AwaitsTurn.step_transmitter_passing {s : State} {rest : List Agent} (h : s.AwaitsTurn)
    (hseq : s.seq ≠ Seq.emit) (hturns : s.turns = .transmitter :: rest) : step s = .next (s.passing rest []) := by
  rw [h.step_transmitter (s.nextTurn_cons _ _ hturns), s.useTurn_cons _ _ hturns]
  exact (execTxdone_next_iff _ _).2 (.inr ⟨fun hguard => hseq hguard.1, rfl⟩)

/-- Outside `S_HOLD` the time base's turn leaves its mark. -/
theorem State.AwaitsTurn.step_timeBase_passing {s : State} {rest : List Agent} (h : s.AwaitsTurn)
    (hseq : s.seq ≠ Seq.hold) (hturns : s.turns = .timeBase :: rest) :
    step s = .next (s.passing rest [.tickMs]) := by
  rw [h.step_timeBase (s.nextTurn_cons _ _ hturns), s.useTurn_cons _ _ hturns]
  exact (execTick_next_iff _ _).2 (.inr ⟨fun hguard => hseq hguard.1, rfl⟩)

/-- While a byte is in the transmitter and nothing is armed, a turn of neither the transmitter nor the reset source
passes, but for the mark of a tick. -/
theorem step_silent {s : State} {a : Agent} {rest : List Agent} (hseq : s.seq = Seq.emit) (hbusy : s.txBusy = true)
    (harmed : s.armed = false) (hmsg : s.msg ≠ 3) (htx : a ≠ .transmitter) (hreset : a ≠ .resetSource)
    (hturns : s.turns = a :: rest) : step s = .next (s.passing rest (ticksOf a)) := by
  have hwait := State.awaitsTurn_emit hseq hbusy hmsg
  cases a with
  | block => exact hwait.step_block_passing (State.blockOp_emit hseq hbusy) hturns
  | adc r => exact hwait.step_adc_passing harmed hturns
  | timeBase => exact hwait.step_timeBase_passing (by rw [hseq]; decide) hturns
  | transmitter => exact absurd rfl htx
  | resetSource => exact absurd rfl hreset

/-- The marks of a list of turns, the last first. -/
theorem replicate_count_cons (a : Agent) (ts : List Agent) (l : List Event) :
    List.replicate (ts.count .timeBase) Event.tickMs ++ (ticksOf a ++ l) =
      List.replicate ((a :: ts).count .timeBase) Event.tickMs ++ l := by
  by_cases ha : a = .timeBase
  · rw [ha, List.count_cons_self, ticksOf, if_pos rfl, List.singleton_append, replicate_append_cons]
  · rw [List.count_cons_of_ne ha, ticksOf, if_neg ha, List.nil_append]

/-- Settles O57: turn by turn. -/
theorem silentTransmitterHangsTheBlock : Obligations.SilentTransmitterHangsTheBlock := by
  intro s ts rest hseq hbusy harmed hmsg htx hreset hturns
  induction ts generalizing s with
  | nil =>
    have hrest : s.turns = rest := hturns
    rw [List.length_nil, run_zero, ← hrest]
    rfl
  | cons a ts ih =>
    obtain ⟨htx, htx'⟩ := List.ne_and_not_mem_of_not_mem_cons htx
    obtain ⟨hreset, hreset'⟩ := List.ne_and_not_mem_of_not_mem_cons hreset
    have hstep := step_silent hseq hbusy harmed hmsg htx.symm hreset.symm hturns
    have hrest := ih (s.passing (ts ++ rest) (ticksOf a)) hseq hbusy harmed hmsg htx' hreset' rfl
    refine ((run_succ _ s _ hstep).trans hrest).trans ?_
    exact congrArg (fun trace => Host.Outcome.next { s with turns := rest, trace := trace })
      (replicate_count_cons a ts s.trace)

/-! ## Fair agents -/

/-- A wait `W` that every turn outside `stop` keeps, and that a turn of `stop` ends with `Q`, is over with the first
turn of `stop`. -/
theorem run_until {W Q : State → Prop} {stop : Agent → Prop}
    (hstay : ∀ (s : State) (a : Agent) (rest : List Agent), W s → s.turns = a :: rest → ¬ stop a →
      ∃ t, step s = .next t ∧ W t ∧ t.turns = rest)
    (hstop : ∀ (s : State) (a : Agent) (rest : List Agent), W s → s.turns = a :: rest → stop a →
      ∃ t, step s = .next t ∧ Q t)
    (ts : List Agent) (a : Agent) (hts : ∀ b ∈ ts, ¬ stop b) (ha : stop a) (s : State) (hW : W s)
    (hturns : s.turns = ts ++ [a]) : ∃ t, core.run (ts.length + 1) s = .next t ∧ Q t := by
  induction ts generalizing s with
  | nil =>
    obtain ⟨t, hstep, hQ⟩ := hstop s a [] hW hturns ha
    exact ⟨t, run_succ 0 s t hstep, hQ⟩
  | cons b ts ih =>
    obtain ⟨hb, hts⟩ := List.forall_mem_cons.1 hts
    obtain ⟨t, hstep, hW', hturns'⟩ := hstay s b (ts ++ [a]) hW hturns hb
    obtain ⟨u, hrun, hQ⟩ := ih hts t hW' hturns'
    exact ⟨u, (run_succ _ s t hstep).trans hrun, hQ⟩

/-- On a schedule in which a turn of `stop` comes, the wait is over after finitely many turns. -/
theorem run_schedule {W Q : State → Prop} {stop : Agent → Prop}
    (hstay : ∀ (s : State) (a : Agent) (rest : List Agent), W s → s.turns = a :: rest → ¬ stop a →
      ∃ t, step s = .next t ∧ W t ∧ t.turns = rest)
    (hstop : ∀ (s : State) (a : Agent) (rest : List Agent), W s → s.turns = a :: rest → stop a →
      ∃ t, step s = .next t ∧ Q t)
    (f : ℕ → Agent) (hf : ∃ m, stop (f m)) (s : State) (hW : ∀ ts, W { s with turns := ts }) :
    ∃ n t, core.run n { s with turns := scheduleOf f n } = .next t ∧ Q t := by
  classical
  have hfirst : ∀ b ∈ scheduleOf f (Nat.find hf), ¬ stop b := by
    intro b hb
    obtain ⟨m, hm, rfl⟩ := List.mem_map.1 hb
    exact Nat.find_min hf (List.mem_range.1 hm)
  have hsplit : scheduleOf f (Nat.find hf + 1) = scheduleOf f (Nat.find hf) ++ [f (Nat.find hf)] := by
    simp [scheduleOf, List.range_succ]
  have hlength : (scheduleOf f (Nat.find hf)).length = Nat.find hf := by simp [scheduleOf]
  obtain ⟨t, hrun, hQ⟩ := run_until hstay hstop _ _ hfirst (Nat.find_spec hf)
    { s with turns := scheduleOf f (Nat.find hf + 1) } (hW _) hsplit
  rw [hlength] at hrun
  exact ⟨_, t, hrun, hQ⟩

/-- A conversion is in progress and the block waits for it. -/
structure AwaitsSample (s : State) : Prop where
  seq : s.seq = Seq.idle
  armed : s.armed = true
  notDone : s.done = false
  msgLegal : s.msg ≠ 3

/-- A byte is in the transmitter, at index `n`, and the block waits for it. -/
structure AwaitsTransmitter (n : BitVec 5) (s : State) : Prop where
  seq : s.seq = Seq.emit
  busy : s.txBusy = true
  unarmed : s.armed = false
  msgLegal : s.msg ≠ 3
  index : s.midx = n

/-- A turn that the wait for a sample ends with. -/
def endsSampleWait (a : Agent) : Prop := (∃ r, a = .adc r) ∨ a = .resetSource

/-- A turn that the wait for the transmitter ends with. -/
def endsTransmitterWait (a : Agent) : Prop := a = .transmitter ∨ a = .resetSource

/-- A reset, whenever it comes, brings `S_BOOT`. -/
theorem step_reset_boot {s : State} (h : s.nextTurn = .resetSource) : ∃ t, step s = .next t ∧ t.seq = Seq.boot :=
  ⟨_, (step_resetSource h).trans ((execReset_next_iff _ _).2 rfl), rfl⟩

/-- The wait for a sample goes on through the turns of the other agents. -/
theorem AwaitsSample.step_stays {s : State} {a : Agent} {rest : List Agent} (h : AwaitsSample s)
    (hturns : s.turns = a :: rest) (ha : ¬ endsSampleWait a) :
    ∃ t, step s = .next t ∧ AwaitsSample t ∧ t.turns = rest := by
  have hwait := State.awaitsTurn_idle h.seq h.notDone h.msgLegal
  have hpassing (es : List Event) : AwaitsSample (s.passing rest es) := { h with }
  cases a with
  | block => exact ⟨_, hwait.step_block_passing (State.blockOp_idle h.seq h.notDone) hturns, hpassing _, rfl⟩
  | transmitter => exact ⟨_, hwait.step_transmitter_passing (by rw [h.seq]; decide) hturns, hpassing _, rfl⟩
  | timeBase => exact ⟨_, hwait.step_timeBase_passing (by rw [h.seq]; decide) hturns, hpassing _, rfl⟩
  | adc r => exact absurd (.inl ⟨r, rfl⟩) ha
  | resetSource => exact absurd (.inr rfl) ha

theorem AwaitsSample.step_ends {s : State} {a : Agent} {rest : List Agent} (h : AwaitsSample s)
    (hturns : s.turns = a :: rest) (ha : endsSampleWait a) :
    ∃ t, step s = .next t ∧ (t.done = true ∧ t.armed = false ∨ t.seq = Seq.boot) := by
  have hturn := s.nextTurn_cons a rest hturns
  rcases ha with ⟨r, rfl⟩ | rfl
  · have hwait := State.awaitsTurn_idle h.seq h.notDone h.msgLegal
    have hcomplete := (execComplete_next_iff r s.useTurn _).2 ⟨s.useTurn_armed.trans h.armed, rfl⟩
    exact ⟨_, (hwait.step_adc_run hturn h.armed).trans hcomplete, .inl ⟨rfl, rfl⟩⟩
  · obtain ⟨t, hstep, hboot⟩ := step_reset_boot hturn
    exact ⟨t, hstep, .inr hboot⟩

/-- The wait for the transmitter goes on through the turns of the other agents. -/
theorem AwaitsTransmitter.step_stays {n : BitVec 5} {s : State} {a : Agent} {rest : List Agent}
    (h : AwaitsTransmitter n s) (hturns : s.turns = a :: rest) (ha : ¬ endsTransmitterWait a) :
    ∃ t, step s = .next t ∧ AwaitsTransmitter n t ∧ t.turns = rest := by
  obtain ⟨htx, hreset⟩ := not_or.1 ha
  exact ⟨_, step_silent h.seq h.busy h.unarmed h.msgLegal htx hreset hturns, { h with }, rfl⟩

theorem AwaitsTransmitter.step_ends {n : BitVec 5} {s : State} {a : Agent} {rest : List Agent}
    (h : AwaitsTransmitter n s) (hturns : s.turns = a :: rest) (ha : endsTransmitterWait a) :
    ∃ t, step s = .next t ∧ (t.txBusy = false ∧ t.midx = n + 1 ∨ t.seq = Seq.boot) := by
  have hturn := s.nextTurn_cons a rest hturns
  rcases ha with rfl | rfl
  · have hwait := State.awaitsTurn_emit h.seq h.busy h.msgLegal
    have hguard : s.useTurn.seq = Seq.emit ∧ s.useTurn.txBusy = true := by
      rw [s.useTurn_seq, s.useTurn_txBusy]
      exact ⟨h.seq, h.busy⟩
    have htxdone := (execTxdone_next_iff s.useTurn _).2 (.inl ⟨hguard, rfl⟩)
    have hidx : s.useTurn.midx + 1 = n + 1 := by rw [s.useTurn_midx, h.index]
    exact ⟨_, (hwait.step_transmitter hturn).trans htxdone, .inl ⟨rfl, hidx⟩⟩
  · obtain ⟨t, hstep, hboot⟩ := step_reset_boot hturn
    exact ⟨t, hstep, .inr hboot⟩

/-- Settles O58: under each premise a turn comes that ends the wait, and the turns before it keep the block waiting. -/
theorem fairAgentsEndTheWaits : Obligations.FairAgentsEndTheWaits := by
  constructor
  · intro s f hfair hseq harmed hdone hmsg
    obtain ⟨m, -, hm⟩ := hfair 0
    exact run_schedule (stop := endsSampleWait) (fun _ _ _ => AwaitsSample.step_stays)
      (fun _ _ _ => AwaitsSample.step_ends) f ⟨m, .inl hm⟩ s fun _ => ⟨hseq, harmed, hdone, hmsg⟩
  · intro s f hfair hseq hbusy harmed hmsg
    obtain ⟨m, -, hm⟩ := hfair 0
    exact run_schedule (stop := endsTransmitterWait) (fun _ _ _ => AwaitsTransmitter.step_stays)
      (fun _ _ _ => AwaitsTransmitter.step_ends) f ⟨m, .inl hm⟩ s fun _ => ⟨hseq, hbusy, harmed, hmsg, rfl⟩

end Sys2Proof.Machine

/-! PROOFS. Runs under the zero-time reading: a message, a revolution, and a whole sample (rules R50, R103, R114, R137,
R170, R174). -/

namespace Sys2Proof.Machine

/-! ## The block before the turn -/

/-- The next turns are some, and the first is not the reset source's. -/
def NoResetNext (ts : List Agent) : Prop := ∃ a rest, ts = a :: rest ∧ a ≠ .resetSource

theorem noResetNext_cons {a : Agent} (rest : List Agent) (h : a ≠ .resetSource) : NoResetNext (a :: rest) :=
  ⟨a, rest, rfl, h⟩

/-- Turns of the time base before such turns. -/
theorem noResetNext_ticks (n : ℕ) {ts : List Agent} (h : NoResetNext ts) :
    NoResetNext (List.replicate n .timeBase ++ ts) := by
  cases n with
  | zero => exact h
  | succ n => exact noResetNext_cons _ nofun

/-- A state in which an enabled operation of the block runs before the turn. -/
structure State.BlockFirst (s : State) : Prop where
  msgLegal : s.msg ≠ 3
  zeroTime : s.zeroTime = true
  noReset : NoResetNext s.turns

/-- The codes of the block's rows name states. -/
theorem le_ack_of_encode {i : Instr} {c : SeqCode} (hcode : encode i = .formatQ .block c) : c ≤ Seq.ack := by
  have hwf := wf_encode i
  rw [hcode, Code.wf, Bool.and_eq_true] at hwf
  exact of_decide_eq_true hwf.1

/-- What an operation of the block answers is the step: it is enabled, for it is not refused. -/
theorem State.BlockFirst.step_eq {s t : State} {i : Instr} {c : SeqCode} (h : s.BlockFirst)
    (hcode : encode i = .formatQ .block c) (hexec : exec i s = .next t) : step s = .next t := by
  have hguard : enabled i s = true := by
    by_contra hguard
    rw [exec_of_not_enabled hcode (Bool.eq_false_iff.2 hguard)] at hexec
    cases hexec
  have hseq : s.seq ≤ Seq.ack := seq_of_enabled hcode hguard ▸ le_ack_of_encode hcode
  obtain ⟨a, rest, hturns, ha⟩ := h.noReset
  have hturn : s.nextTurn ≠ .resetSource := by rwa [s.nextTurn_cons a rest hturns]
  rw [step_zeroTime hseq h.msgLegal h.zeroTime hturn (State.blockOp_of_enabled hcode hguard), hexec]

/-! ## A message -/

/-- The two selectors with a string have 19 bytes. -/
theorem messageLog_length {m : MsgCode} (hm : m = Msg.min ∨ m = Msg.max) : (messageLog m).length = 19 := by
  rcases hm with rfl | rfl <;> rfl

/-- The message up to a byte and that byte. -/
theorem messageLog_take_succ {m : MsgCode} {n : ℕ} {b : Byte} (h : (msgRom m)[n]? = some b) :
    (messageLog m).take (n + 1) = (messageLog m).take n ++ [.tx b] := by
  have hget : (messageLog m)[n]? = some (.tx b) := by
    rw [messageLog, List.getElem?_map, h]
    rfl
  rw [List.take_add_one, hget]
  rfl

/-- `s` with `n` bytes of its message sent and `ts` the turns to come. -/
def State.sentBytes (s : State) (n : ℕ) (ts : List Agent) : State :=
  { s with
    txBusy := false, midx := BitVec.ofNat 5 n, seq := if n = 19 then Seq.pinit else Seq.emit, turns := ts,
    trace := ((messageLog s.msg).take n).reverse ++ s.trace }

/-- A completion of a byte in flight. -/
theorem step_txdone {s : State} {rest : List Agent} (hseq : s.seq = Seq.emit) (hbusy : s.txBusy = true)
    (hmsg : s.msg ≠ 3) (hturns : s.turns = .transmitter :: rest) :
    step s = .next { s with
      txBusy := false, midx := s.midx + 1, seq := if s.midx + 1 = msgLen then Seq.pinit else s.seq,
      turns := rest } := by
  rw [(State.awaitsTurn_emit hseq hbusy hmsg).step_transmitter (s.nextTurn_cons _ _ hturns),
    s.useTurn_cons _ _ hturns]
  exact (execTxdone_next_iff _ _).2 (.inl ⟨⟨hseq, hbusy⟩, rfl⟩)

/-- One byte: the hand-off and its completion. -/
theorem run_byte {s : State} {n : ℕ} {ts : List Agent} (hn : n < 19) (hmsg : s.msg = Msg.min ∨ s.msg = Msg.max)
    (hzero : s.zeroTime = true) :
    core.run 2 (s.sentBytes n (.transmitter :: ts)) = .next (s.sentBytes (n + 1) ts) := by
  have hlegal : s.msg ≠ 3 := by rcases hmsg with h | h <;> rw [h] <;> decide
  have hseq : (s.sentBytes n (.transmitter :: ts)).seq = Seq.emit := if_neg (by omega)
  have hidx : BitVec.ofNat 5 n < msgLen := by bv_omega
  obtain ⟨b, hb⟩ := exists_msgByte hmsg hidx
  have hbyte : (msgRom s.msg)[n]? = some b := by
    rwa [msgByte, BitVec.toNat_ofNat, Nat.mod_eq_of_lt (by omega)] at hb
  have hfirst : (s.sentBytes n (.transmitter :: ts)).BlockFirst := ⟨hlegal, hzero, noResetNext_cons ts nofun⟩
  have hsend := hfirst.step_eq (i := .txsend) rfl ((execTxsend_next_iff _ _).2 ⟨⟨hseq, rfl, hidx⟩, b, hb, rfl⟩)
  have hdone := step_txdone
    (s := { s.sentBytes n (.transmitter :: ts) with txBusy := true }.emit (.tx b)) hseq rfl hlegal rfl
  have hsucc : BitVec.ofNat 5 n + 1 = BitVec.ofNat 5 (n + 1) := (BitVec.ofNat_add n 1).symm
  have hlast : BitVec.ofNat 5 (n + 1) = msgLen ↔ n + 1 = 19 := by
    rw [← BitVec.toNat_inj, BitVec.toNat_ofNat, Nat.mod_eq_of_lt (by omega)]
    rfl
  refine (run_succ 1 _ _ hsend).trans ((run_succ 0 _ _ hdone).trans ?_)
  simp only [run_zero, State.sentBytes, State.emit, hsucc, hlast, if_neg hn.ne, messageLog_take_succ hbyte,
    List.reverse_append]
  rfl

/-- The first `n` bytes of a message, by induction on their number. -/
theorem run_bytes {s : State} {n : ℕ} (ts : List Agent) (hn : n ≤ 19) (hmsg : s.msg = Msg.min ∨ s.msg = Msg.max)
    (hzero : s.zeroTime = true) :
    core.run (2 * n) (s.sentBytes 0 (List.replicate n .transmitter ++ ts)) = .next (s.sentBytes n ts) := by
  induction n generalizing ts with
  | zero => rfl
  | succ n ih =>
    rw [← replicate_append_cons]
    have hbytes := ih (.transmitter :: ts) (by omega)
    exact (run_add (2 * n) 2 _ _ hbytes).trans (run_byte (by omega) hmsg hzero)

/-- A whole message. -/
theorem run_message {s : State} {rest : List Agent} (hseq : s.seq = Seq.emit) (hfree : s.txBusy = false)
    (hidx : s.midx = 0) (hmsg : s.msg = Msg.min ∨ s.msg = Msg.max) (hzero : s.zeroTime = true)
    (hturns : s.turns = List.replicate 19 Agent.transmitter ++ rest) :
    core.run 38 s = .next { s with
      midx := 19, seq := Seq.pinit, turns := rest, trace := (messageLog s.msg).reverse ++ s.trace } := by
  have hstart : s = s.sentBytes 0 (List.replicate 19 .transmitter ++ rest) := by
    cases s
    subst hseq hfree hidx hturns
    rfl
  have hend : s.sentBytes 19 rest = { s with
      midx := 19, seq := Seq.pinit, turns := rest, trace := (messageLog s.msg).reverse ++ s.trace } := by
    rw [State.sentBytes, List.take_of_length_le (messageLog_length hmsg).le, ← hfree]
    rfl
  rw [← hend]
  exact (congrArg (core.run 38) hstart).trans (run_bytes rest le_rfl hmsg hzero)

/-- Settles O54: `run_message`. -/
theorem messageSendsItsNineteenBytes : Obligations.MessageSendsItsNineteenBytes :=
  fun _ _ => run_message

/-! ## A revolution -/

/-- Phase write number `n` of a revolution, with its hold of `d` ticks. -/
def phaseLog (d n : ℕ) : List Event := .motor (phaseOf n) :: List.replicate d .tickMs

/-- The phase writes below `n`, with their holds. -/
def phaseLogs (d n : ℕ) : List Event := (List.range n).flatMap (phaseLog d)

theorem revolutionLog_eq (d : ℕ) : revolutionLog d = phaseLogs d 73 := rfl

theorem phaseLogs_succ (d n : ℕ) : phaseLogs d (n + 1) = phaseLogs d n ++ phaseLog d n := by
  simp [phaseLogs, List.range_succ, List.flatMap_append]

/-- In front of a trace, which holds the newest event first, the hold of a phase write stands before the write. -/
theorem reverse_phaseLogs_succ (d n : ℕ) (trace : List Event) :
    (phaseLogs d (n + 1)).reverse ++ trace =
      List.replicate d .tickMs ++ .motor (phaseOf n) :: ((phaseLogs d n).reverse ++ trace) := by
  simp [phaseLogs_succ, phaseLog]

/-- `s` after phase write number `n`, at the start of its hold, with `ts` the turns to come. -/
def State.atPhase (s : State) (n : ℕ) (ts : List Agent) : State :=
  { s with
    motor := phaseOf n, stepNo := BitVec.ofNat 7 n, timer := s.delay, seq := Seq.hold, turns := ts,
    trace := .motor (phaseOf n) :: ((phaseLogs s.delay.toNat n).reverse ++ s.trace) }

/-- `s` at the end of that hold, when the timer is at 0. -/
def State.phaseHeld (s : State) (n : ℕ) (ts : List Agent) : State :=
  { s with
    motor := phaseOf n, stepNo := BitVec.ofNat 7 n, timer := 0, seq := Seq.hold, turns := ts,
    trace := (phaseLogs s.delay.toNat (n + 1)).reverse ++ s.trace }

section

variable {s : State} (hmsg : s.msg ≠ 3) (hzero : s.zeroTime = true)
include hmsg

/-- The hold of a phase write. -/
theorem run_phaseHold (n : ℕ) (ts : List Agent) :
    core.run s.delay.toNat (s.atPhase n (List.replicate s.delay.toNat .timeBase ++ ts)) =
      .next (s.phaseHeld n ts) := by
  refine (run_hold _ (s.atPhase n _) ts rfl rfl hmsg rfl).trans ?_
  rw [State.phaseHeld, reverse_phaseLogs_succ]
  rfl

include hzero

/-- The first phase write. -/
theorem step_firstPhase (hseq : s.seq = Seq.pinit) (hturns : NoResetNext s.turns) :
    step s = .next (s.atPhase 0 s.turns) :=
  State.BlockFirst.step_eq ⟨hmsg, hzero, hturns⟩ (i := .pinit) rfl ((execPinit_next_iff s _).2 ⟨hseq, rfl⟩)

/-- From the end of a hold to the next phase write: `EXPIRE` and `PADV`. -/
theorem run_nextPhase {n : ℕ} (hn : n < 72) {ts : List Agent} (hts : NoResetNext ts) :
    core.run 2 (s.phaseHeld n ts) = .next (s.atPhase (n + 1) ts) := by
  have hleft : (s.phaseHeld n ts).stepNo < nAdvances := by
    show BitVec.ofNat 7 n < nAdvances
    bv_omega
  have hexpire := State.BlockFirst.step_eq (s := s.phaseHeld n ts) ⟨hmsg, hzero, hts⟩ (i := .expire) rfl
    ((execExpire_next_iff _ _).2 ⟨⟨rfl, rfl⟩, rfl⟩)
  rw [if_pos hleft] at hexpire
  have hpadv := State.BlockFirst.step_eq (s := (s.phaseHeld n ts).setSeq Seq.padv) ⟨hmsg, hzero, hts⟩ (i := .padv) rfl
    ((execPadv_next_iff _ _).2 ⟨rfl, _, nextPhase_phaseOf n, rfl⟩)
  refine (run_succ 1 _ _ hexpire).trans ((run_succ 0 _ _ hpadv).trans ?_)
  have hsucc : BitVec.ofNat 7 n + 1 = BitVec.ofNat 7 (n + 1) := (BitVec.ofNat_add n 1).symm
  simp only [run_zero, State.atPhase, ← hsucc]
  rfl

/-- The first `n` advances, by induction on their number. -/
theorem run_advances {n : ℕ} (hn : n ≤ 72) {ts : List Agent} (hts : NoResetNext ts) :
    core.run (n * (s.delay.toNat + 2))
        (s.atPhase 0 (List.replicate (n * s.delay.toNat) .timeBase ++ ts)) =
      .next (s.atPhase n ts) := by
  induction n generalizing ts with
  | zero =>
    rw [Nat.zero_mul, Nat.zero_mul]
    rfl
  | succ n ih =>
    have hts' : NoResetNext (List.replicate s.delay.toNat .timeBase ++ ts) :=
      noResetNext_ticks _ hts
    have hadvances := ih (by omega) hts'
    rw [← List.append_assoc, List.replicate_append_replicate, ← Nat.succ_mul] at hadvances
    rw [Nat.succ_mul]
    refine (run_add _ _ _ _ hadvances).trans ?_
    exact (run_add _ 2 _ _ (run_phaseHold hmsg n ts)).trans (run_nextPhase hmsg hzero (by omega) hts)

/-- A whole revolution. -/
theorem run_revolution {a : Agent} {rest : List Agent} (hseq : s.seq = Seq.pinit) (ha : a ≠ .resetSource)
    (hturns : s.turns = List.replicate (73 * s.delay.toNat) Agent.timeBase ++ a :: rest) :
    core.run (revolutionSteps s.delay.toNat) s = .next { s with
      motor := 0x80, stepNo := 72, timer := 0, seq := Seq.ack, turns := a :: rest,
      trace := (revolutionLog s.delay.toNat).reverse ++ s.trace } := by
  have hlast : NoResetNext (a :: rest) := noResetNext_cons rest ha
  have hsteps : revolutionSteps s.delay.toNat = 72 * (s.delay.toNat + 2) + (s.delay.toNat + 1) + 1 := by
    unfold revolutionSteps
    omega
  have hsplit : s.turns = List.replicate (72 * s.delay.toNat) .timeBase ++
      (List.replicate s.delay.toNat .timeBase ++ a :: rest) := by
    rw [hturns, ← List.append_assoc, List.replicate_append_replicate, ← Nat.succ_mul]
  have hfirst : step s = .next (s.atPhase 0 s.turns) := by
    refine step_firstPhase hmsg hzero hseq ?_
    rw [hturns]
    exact noResetNext_ticks _ hlast
  have hadvances := run_advances hmsg hzero le_rfl (noResetNext_ticks s.delay.toNat hlast)
  have hhold := run_phaseHold hmsg 72 (a :: rest)
  have hexpire := State.BlockFirst.step_eq (s := s.phaseHeld 72 (a :: rest)) ⟨hmsg, hzero, hlast⟩ (i := .expire) rfl
    ((execExpire_next_iff _ _).2 ⟨⟨rfl, rfl⟩, rfl⟩)
  rw [← hsplit] at hadvances
  rw [hsteps, revolutionLog_eq]
  refine (run_succ _ _ _ hfirst).trans ((run_add _ _ _ _ hadvances).trans ((run_add _ 1 _ _ hhold).trans ?_))
  exact run_succ 0 _ _ hexpire

end

/-- Settles O55: `run_revolution`. -/
theorem revolutionMakes73PhaseWrites : Obligations.RevolutionMakes73PhaseWrites :=
  fun _ _ _ hseq hmsg hzero ha hturns => run_revolution hmsg hzero hseq ha hturns

end Sys2Proof.Machine

/-! PROOFS. One sample served under the zero-time reading, from a quiescent point to the next (rules R50, R170,
R174). -/

namespace Sys2Proof.Machine

/-! ## The states on the way -/

/-- The turns of the transmitter that band `k` takes. -/
def messageTurns (k : BandIndex) : List Agent :=
  if (bandRom k).msg = Msg.none then [] else List.replicate 19 .transmitter

/-- The steps of the message of band `k`. -/
def messageSteps (k : BandIndex) : ℕ := if (bandRom k).msg = Msg.none then 0 else 38

/-- `s` after the selection of the band of the sample `r`, with `ts` the turns to come. -/
def State.selectedFor (s : State) (r : Sample) (ts : List Agent) : State :=
  State.selectBand
    { s with raw := r, scaled := reduceSample r, armed := false, done := true, seq := Seq.select, turns := ts }
    (sampleBand r)

/-- `s` before the revolution of the sample `r`: the message, if there is one, is sent. -/
def State.messageSent (s : State) (r : Sample) (ts : List Agent) : State :=
  { s.selectedFor r ts with
    midx := if (bandRom (sampleBand r)).msg = Msg.none then 0 else 19
    seq := Seq.pinit
    trace := (messageLog (bandRom (sampleBand r)).msg).reverse ++ .led (bandRom (sampleBand r)).ledpat :: s.trace }

/-! ## The parts of the run -/

section

variable {s : State} {r : Sample} (hmsg : s.msg ≠ 3) (hzero : s.zeroTime = true)

include hmsg in
/-- The completion of the armed conversion. -/
theorem step_complete {ts : List Agent} (hseq : s.seq = Seq.idle) (harmed : s.armed = true) (hdone : s.done = false)
    (hturns : s.turns = .adc r :: ts) :
    step s = .next { s with raw := r, armed := false, done := true, turns := ts } := by
  rw [(State.awaitsTurn_idle hseq hdone hmsg).step_adc_run (s.nextTurn_cons _ _ hturns) harmed,
    s.useTurn_cons _ _ hturns]
  exact (execComplete_next_iff r _ _).2 ⟨harmed, rfl⟩

include hmsg hzero in
/-- From a quiescent point to the selected band: `COMPLETE`, `ENTER`, `CAPTURE`, `SELECT`. -/
theorem run_selection {ts : List Agent} (hquiescent : s.quiescent) (hdone : s.done = false) (henables : s.enablesSet)
    (hturns : s.turns = .adc r :: ts) (hts : NoResetNext ts) : core.run 4 s = .next (s.selectedFor r ts) := by
  obtain ⟨hseq, harmed⟩ := hquiescent
  have hcomplete := step_complete hmsg hseq harmed hdone hturns
  have henter := State.BlockFirst.step_eq (s := { s with raw := r, armed := false, done := true, turns := ts })
    ⟨hmsg, hzero, hts⟩ (i := .enter) rfl
    ((execEnter_next_iff _ _).2 ⟨⟨hseq, (State.deliverable_iff _).2 ⟨rfl, henables⟩⟩, rfl⟩)
  have hcapture := State.BlockFirst.step_eq
    (s := { s with raw := r, armed := false, done := true, seq := Seq.capture, turns := ts })
    ⟨hmsg, hzero, hts⟩ (i := .capture) rfl ((execCapture_next_iff _ _).2 ⟨rfl, rfl⟩)
  have hselect := State.BlockFirst.step_eq
    (s := { s with
      raw := r, scaled := reduceSample r, armed := false, done := true, seq := Seq.select, turns := ts })
    ⟨hmsg, hzero, hts⟩ (i := .select) rfl ((execSelect_next_iff _ _).2 ⟨rfl, rfl⟩)
  simp only [bandBits_reduceSample] at hselect
  refine (run_succ 3 _ _ hcomplete).trans ((run_succ 2 _ _ henter).trans ((run_succ 1 _ _ hcapture).trans ?_))
  exact run_succ 0 _ _ hselect

include hzero in
/-- The message of the band, if it has one. -/
theorem run_messagePart (hfree : s.txBusy = false) (ts : List Agent) :
    core.run (messageSteps (sampleBand r)) (s.selectedFor r (messageTurns (sampleBand r) ++ ts)) =
      .next (s.messageSent r ts) := by
  by_cases hnone : (bandRom (sampleBand r)).msg = Msg.none
  · have hseq : (s.selectedFor r ts).seq = Seq.pinit := if_pos hnone
    rw [messageSteps, messageTurns, if_pos hnone, if_pos hnone, List.nil_append, run_zero, State.messageSent,
      if_pos hnone, ← hseq, hnone]
    rfl
  · have hseq : (s.selectedFor r (messageTurns (sampleBand r) ++ ts)).seq = Seq.emit := if_neg hnone
    have hturns : messageTurns (sampleBand r) = List.replicate 19 .transmitter := if_neg hnone
    rw [messageSteps, if_neg hnone, State.messageSent, if_neg hnone]
    exact run_message hseq hfree rfl (msg_min_or_max (bandRom_msg_legal _) hnone) hzero (congrArg (· ++ ts) hturns)

end

/-- In front of a trace, which holds the newest event first, the events of one sample stand in their reverse order. -/
theorem reverse_sampleLog (r : Sample) (trace : List Event) :
    (sampleLog r).reverse ++ trace =
      .adcStart :: ((revolutionLog (bandRom (sampleBand r)).delay.toNat).reverse ++
        ((messageLog (bandRom (sampleBand r)).msg).reverse ++ .led (bandRom (sampleBand r)).ledpat :: trace)) := by
  simp only [sampleLog, List.reverse_append, List.reverse_cons, List.reverse_nil, List.nil_append,
    List.cons_append, List.append_assoc]

/-- The turns for one sample, as the run takes them. -/
theorem sampleTurns_append (r : Sample) (ts : List Agent) :
    sampleTurns r ++ ts = .adc r :: (messageTurns (sampleBand r) ++
      (List.replicate (73 * (bandRom (sampleBand r)).delay.toNat) .timeBase ++ ts)) := by
  simp only [sampleTurns, messageTurns, List.append_assoc, List.cons_append, List.nil_append]

theorem noResetNext_messageTurns (k : BandIndex) {ts : List Agent} (h : NoResetNext ts) :
    NoResetNext (messageTurns k ++ ts) := by
  unfold messageTurns
  split
  · exact h
  · exact noResetNext_cons _ nofun

/-- The steps of one sample, as the run takes them. -/
theorem sampleSteps_eq (r : Sample) :
    sampleSteps r = 4 + (messageSteps (sampleBand r) + (revolutionSteps (bandRom (sampleBand r)).delay.toNat + 1)) := by
  unfold sampleSteps messageSteps
  omega

/-- Settles O56: the selection, the message, the revolution and `ACK`, one after another. -/
theorem oneSampleIsServedInOrder : Obligations.OneSampleIsServedInOrder := by
  intro s r a rest hquiescent hdone hfree henables hmsg hzero ha hturns
  have hlast : NoResetNext (a :: rest) := noResetNext_cons rest ha
  rw [sampleTurns_append] at hturns
  have hselection := run_selection hmsg hzero hquiescent hdone henables hturns
    (noResetNext_messageTurns _ (noResetNext_ticks _ hlast))
  have hmessage := run_messagePart (r := r) hzero hfree
    (List.replicate (73 * (bandRom (sampleBand r)).delay.toNat) .timeBase ++ a :: rest)
  have hrevolution := run_revolution (s := s.messageSent r
      (List.replicate (73 * (bandRom (sampleBand r)).delay.toNat) .timeBase ++ a :: rest))
    (bandRom_msg_legal _) hzero rfl ha rfl
  have hack := State.BlockFirst.step_eq
    (s := { s.messageSent r (a :: rest) with
      motor := 0x80, stepNo := 72, timer := 0, seq := Seq.ack
      trace := (revolutionLog (bandRom (sampleBand r)).delay.toNat).reverse ++ (s.messageSent r (a :: rest)).trace })
    ⟨bandRom_msg_legal _, hzero, hlast⟩ (i := .ack) rfl ((execAck_next_iff _ _).2 ⟨rfl, rfl⟩)
  rw [sampleSteps_eq, reverse_sampleLog]
  refine (run_add 4 _ _ _ hselection).trans ((run_add _ _ _ _ hmessage).trans ((run_add _ 1 _ _ hrevolution).trans ?_))
  refine (run_succ 0 _ _ hack).trans ?_
  obtain ⟨hseq, harmed⟩ := hquiescent
  cases s
  subst hseq harmed hdone
  rfl

end Sys2Proof.Machine
